-- ==== Sys2Proof/Word.lean ====
section
/-! DEFINITION. The bit-valued words of the decoder and their fixed values.

Bit 0 is the least significant bit (00_scope.md R11). -/

namespace Sys2Proof

/-- A logic level of the line, one bit: 1 is high, 0 is low (R12). -/
abbrev Level := BitVec 1

/-- High (R12). -/
@[simp] abbrev Level.high : Level := 1#1

/-- Low, the document's "disabled/low" (R12). -/
@[simp] abbrev Level.low : Level := 0#1

/-- A one-bit register of the block (R20). -/
abbrev Flag := BitVec 1

/-- A byte is 8 bits (R11). -/
abbrev Byte := BitVec 8

/-- A value of the phase register PH, 5 bits (R21). -/
abbrev PhaseCode := BitVec 5

/-- A value of RES, 3 bits (R28, R64). -/
abbrev ResCode := BitVec 3

/-- The number of a host register: the port carries 3 address bits (R43). -/
abbrev HostReg := BitVec 3

end Sys2Proof
end

