-- ==== Sys2Proof/Config.lean ====
section
/-! DEFINITION. What an implementation of the decoder fixes, and the free values.

The constants without a body are FREE: no proof can see them, so a claim about them holds whatever
they are. -/

namespace Sys2Proof

/-- How many sensor variants there are: "two known variants" (00_scope.md R7). -/
abbrev NVARIANTS : Nat := 2

/-- The two parameters of R8 that a rule of the block reads or bounds: the sampler's ceiling TIMEOUT
and the width CW of a tick count. -/
structure Params where
  /-- TIMEOUT, the ceiling and the sentinel. -/
  timeout : Nat
  /-- CW, the width in bits of CNT and of each RAW slot. -/
  cw : Nat
  deriving DecidableEq, Repr

/-- R8: TIMEOUT >= 1 and 2^CW > TIMEOUT, and nothing else. -/
abbrev Params.wf (p : Params) : Prop := 1 ≤ p.timeout ∧ p.timeout < 2 ^ p.cw

/-- What the delay port is asked for (R13, R50): T_SETTLE or T_START_LOW[v], as opaque tokens (R8).
DESIGN CHOICE, safe: log 13. -/
inductive DelayToken where
  /-- `Delay(SETTLE)`. -/
  | settle
  /-- `Delay(START_LOW, v)`. -/
  | startLow (v : Flag)
  deriving DecidableEq, Repr

namespace Config

/-- TIMEOUT less one: TIMEOUT is any natural >= 1 (R8, U1). Free; DESIGN CHOICE, safe: log 1. -/
opaque timeoutPred : Nat

/-- How many bits CW has beyond the least that hold TIMEOUT (R8, U2). Free; log 1. -/
opaque cwSpare : Nat

/-- The parameters of the machine that reset starts (R8, D11): any pair with 2^CW > TIMEOUT >= 1. -/
def params : Params where
  timeout := timeoutPred + 1
  cw := (timeoutPred + 1).log2 + 1 + cwSpare

/-- The magnitude of a duration (U3, U4). Free, and read by no step: "No rule of this spec reads the
magnitude of a duration" (R8); log 13. -/
opaque duration : DelayToken → Nat

/-- The level the environment answers to the n-th `PinGet` of a run, where State lists no answer: "a free
draw" (R42, U5). Free; DESIGN CHOICE, safe: log 3. -/
opaque pinLevel : Nat → Level

/-- What RAW holds after the n-th reset, before it is cut to CW bits: "unspecified" (R35). Free; log 6. -/
opaque resetRaw : Nat → Vector Nat 80

/-- What BUF holds after the n-th reset: "unspecified" (R35). Free; log 6. -/
opaque resetBuf : Nat → Vector Byte 5

/-- What OUT holds after the n-th reset: "unspecified" (R35). Free; log 6. -/
opaque resetOut : Nat → Vector Byte 5

/-- What ORIG holds after the n-th reset: "unspecified" (R35). Free; log 6. -/
opaque resetOrig : Nat → Flag

/-- What VAR holds after the n-th reset: "unspecified" (R35). Free; log 6. -/
opaque resetVar : Nat → Flag

end Config
end Sys2Proof
end

