-- ==== Sys2Proof/Syntax.lean ====
section
/-! DEFINITION. The instructions of the decoder: the 20 micro-operations of the sequencer
(30_encoding.md R61), in the order of their codes, and the host command START (R65). One constructor
per row of spec/opcode_table.json. -/

namespace Sys2Proof

/-- R61, R65. A micro-operation has no operand: "none takes a register number, an immediate or a mode
field from anywhere" (R62). -/
inductive Instr where
  | idle
  | guardGet
  | guardSet
  | guardSettle
  | hsCfgOut
  | hsLow
  | hsHold
  | hsHigh
  | hsCfgIn
  | ack1
  | ack2
  | ack3
  | critEnter
  | rxLow
  | rxHigh
  | critExit
  | slice
  | check
  | commit
  | restore
  /-- START: the variant selector v (CTRL bit 1) as the number of a variant, and CTRL bits 7:2, which the
  block ignores and the word still carries (log 11). -/
  | start (variant : Nat) (reserved : BitVec 6)
  deriving DecidableEq, Repr

end Sys2Proof
end

