-- ==== Sys2Proof/WellFormed.lean ====
section
/-! DEFINITION. Which instructions the encoding can carry. -/

namespace Sys2Proof

/-- The one operand that can be out of range is START's variant: there are NVARIANTS = 2 (R7), and "a third
variant would also need ... a wider VAR; neither is provided for" (R153). -/
def Instr.wf : Instr → Bool
  | .idle | .guardGet | .guardSet | .guardSettle => true
  | .hsCfgOut | .hsLow | .hsHold | .hsHigh | .hsCfgIn => true
  | .ack1 | .ack2 | .ack3 => true
  | .critEnter | .rxLow | .rxHigh | .critExit => true
  | .slice | .check | .commit | .restore => true
  | .start variant _ => decide (variant < NVARIANTS)

end Sys2Proof
end

