-- ==== Sys2Proof/Decode.lean ====
section
/-! DEFINITION. The phase codes, the decoder and the encoder (30_encoding.md R61, R65, R67).

There are two spaces of codes: the 5-bit values of PH, which select a micro-operation, and the 8-bit
bytes the host writes to CTRL, of which START is one (R65). -/

namespace Sys2Proof

/-! The codes of R61, by name. -/

@[simp] abbrev Phase.idle : PhaseCode := 0x00#5
@[simp] abbrev Phase.guardGet : PhaseCode := 0x01#5
@[simp] abbrev Phase.guardSet : PhaseCode := 0x02#5
@[simp] abbrev Phase.guardSettle : PhaseCode := 0x03#5
@[simp] abbrev Phase.hsCfgOut : PhaseCode := 0x04#5
@[simp] abbrev Phase.hsLow : PhaseCode := 0x05#5
@[simp] abbrev Phase.hsHold : PhaseCode := 0x06#5
@[simp] abbrev Phase.hsHigh : PhaseCode := 0x07#5
@[simp] abbrev Phase.hsCfgIn : PhaseCode := 0x08#5
@[simp] abbrev Phase.ack1 : PhaseCode := 0x09#5
@[simp] abbrev Phase.ack2 : PhaseCode := 0x0A#5
@[simp] abbrev Phase.ack3 : PhaseCode := 0x0B#5
@[simp] abbrev Phase.critEnter : PhaseCode := 0x0C#5
@[simp] abbrev Phase.rxLow : PhaseCode := 0x0D#5
@[simp] abbrev Phase.rxHigh : PhaseCode := 0x0E#5
@[simp] abbrev Phase.critExit : PhaseCode := 0x0F#5
@[simp] abbrev Phase.slice : PhaseCode := 0x10#5
@[simp] abbrev Phase.check : PhaseCode := 0x11#5
@[simp] abbrev Phase.commit : PhaseCode := 0x12#5
@[simp] abbrev Phase.restore : PhaseCode := 0x13#5

/-- A word of one of the two code spaces. -/
inductive CodeWord where
  /-- A value of PH (R61). -/
  | phase (code : PhaseCode)
  /-- A byte written to CTRL (R65). -/
  | ctrl (byte : Byte)
  deriving DecidableEq, Repr

/-- Why a word is no instruction. -/
inductive DecodeReject where
  /-- A PH code 0x14..0x1F (R67). -/
  | reservedPhase (code : PhaseCode)
  /-- A CTRL byte with bit 0 clear: "`xxxxxxx0` is no command" (R65). -/
  | noCommand (byte : Byte)
  deriving DecidableEq, Repr

/-- The micro-operation with a given code (R61). The codes 0x14..0x1F are reserved: "A model must not give
these codes a meaning" (R67). -/
def decodePhase (code : PhaseCode) : Except DecodeReject Instr :=
  match code.toNat with
  | 0x00 => .ok .idle
  | 0x01 => .ok .guardGet
  | 0x02 => .ok .guardSet
  | 0x03 => .ok .guardSettle
  | 0x04 => .ok .hsCfgOut
  | 0x05 => .ok .hsLow
  | 0x06 => .ok .hsHold
  | 0x07 => .ok .hsHigh
  | 0x08 => .ok .hsCfgIn
  | 0x09 => .ok .ack1
  | 0x0A => .ok .ack2
  | 0x0B => .ok .ack3
  | 0x0C => .ok .critEnter
  | 0x0D => .ok .rxLow
  | 0x0E => .ok .rxHigh
  | 0x0F => .ok .critExit
  | 0x10 => .ok .slice
  | 0x11 => .ok .check
  | 0x12 => .ok .commit
  | 0x13 => .ok .restore
  | _ => .error (.reservedPhase code)

/-- R65: `(byte & 0x01) = 0x01` is START with variant bit 1; "Reserved bits are ignored whatever their
value; they do not make the command illegal". -/
def decodeCtrl (byte : Byte) : Except DecodeReject Instr :=
  if byte.extractLsb' 0 1 = 1#1 then
    .ok (.start (byte.extractLsb' 1 1).toNat (byte.extractLsb' 2 6))
  else
    .error (.noCommand byte)

/-- The instruction a word stands for, or the name of why it is none. -/
def decode : CodeWord → Except DecodeReject Instr
  | .phase code => decodePhase code
  | .ctrl byte => decodeCtrl byte

/-- The word of an instruction (R61, R65): `xxxxxxv1` for START. -/
def encode : Instr → CodeWord
  | .idle => .phase Phase.idle
  | .guardGet => .phase Phase.guardGet
  | .guardSet => .phase Phase.guardSet
  | .guardSettle => .phase Phase.guardSettle
  | .hsCfgOut => .phase Phase.hsCfgOut
  | .hsLow => .phase Phase.hsLow
  | .hsHold => .phase Phase.hsHold
  | .hsHigh => .phase Phase.hsHigh
  | .hsCfgIn => .phase Phase.hsCfgIn
  | .ack1 => .phase Phase.ack1
  | .ack2 => .phase Phase.ack2
  | .ack3 => .phase Phase.ack3
  | .critEnter => .phase Phase.critEnter
  | .rxLow => .phase Phase.rxLow
  | .rxHigh => .phase Phase.rxHigh
  | .critExit => .phase Phase.critExit
  | .slice => .phase Phase.slice
  | .check => .phase Phase.check
  | .commit => .phase Phase.commit
  | .restore => .phase Phase.restore
  | .start variant reserved => .ctrl (reserved ++ BitVec.ofNat 1 variant ++ 1#1)

/-- The word that spec/opcode_table.json's numbering `nbits`, `w` stands for. Both code spaces fill one
byte there, so a row's width does not tell them apart: a number below 32 is read as a PH code (20 of the
21 rows, and the reserved codes, which are rejected) and any other as a CTRL byte. DESIGN CHOICE, safe
(the machine's own decoding of PH and of CTRL does not go through this function): log 10. -/
def tableWord (nbits w : Nat) : CodeWord :=
  if nbits ≤ 5 ∨ w < 32 then .phase (BitVec.ofNat 5 w) else .ctrl (BitVec.ofNat 8 w)

/-- The instruction the decoder reads from a word numbered as spec/opcode_table.json numbers it. -/
def decodeTableWord (nbits w : Nat) : Option Instr :=
  (decode (tableWord nbits w)).toOption

end Sys2Proof
end

