-- ==== Sys2Proof/Machine/State.lean ====
section
/-! DEFINITION. The state of the decoder (10_state.md R20), what its ports and its host do to it as data,
why a step can stop, and the state after reset (R35).

The state is the spec's registers, the observable record of port operations and host accesses, and, at
the end, the model's own fields that stand for the world outside the block. -/

namespace Sys2Proof.Machine

/-- The direction `PinConfigure` sets (00_scope.md R13). -/
inductive PinDir where
  | output
  | input
  deriving DecidableEq, Repr

/-- One operation of the block on its pin, delay or guard port, an event of the trace (20_memory.md R40,
R41). -/
inductive PortEvent where
  /-- `PinConfigure(OUTPUT)` or `PinConfigure(INPUT)`. -/
  | pinConfigure (dir : PinDir)
  /-- `PinSet(b)`. -/
  | pinSet (level : Level)
  /-- `PinGet() -> b`, with the level the environment answered. -/
  | pinGet (level : Level)
  /-- `Delay(SETTLE)` or `Delay(START_LOW, v)`. -/
  | delay (token : DelayToken)
  | critEnter
  | critExit
  deriving DecidableEq, Repr

/-- One completed host access (30_encoding.md R69). -/
inductive HostEvent where
  /-- `R n -> v`. -/
  | read (n : HostReg) (v : Byte)
  /-- `W n <- v`. -/
  | wrote (n : HostReg) (v : Byte)
  deriving DecidableEq, Repr

/-- Who makes the next step: "a run of the system is one sequence of steps, each a step of the sequencer
or one host access" (20_memory.md R47); and the reset input (70_reset_and_hazards.md R190). -/
inductive Turn where
  | sequencer
  /-- `RegRead(n)`. -/
  | regRead (n : HostReg)
  /-- `RegWrite(n, v)`. -/
  | regWrite (n : HostReg) (v : Byte)
  | reset
  deriving DecidableEq, Repr

/-- The three error conditions of 60_exceptions.md R170. They stop nothing: `State.fail` makes a next state
of them. -/
inductive ErrorKind where
  | noSignal
  | noData
  | checksum
  deriving DecidableEq, Repr

/-- Why the machine has no step. Neither is reached from reset. -/
inductive Fault where
  /-- Raised by step on a sequencer's turn when PH holds a reserved code 0x14..0x1F: "the sequencer has no
  step: the state is stuck" (30_encoding.md R67). Safe: log 8. -/
  | stuckPhase (code : PhaseCode)
  /-- Raised by RX_LOW and RX_HIGH when IDX is above 79: RAW has no such slot (R20, R22). Safe: log 9. -/
  | noSuchSlot (idx : BitVec 7)
  deriving DecidableEq, Repr

/-- Why the model says nothing. -/
inductive Refusal where
  /-- Raised by exec alone, for an instruction without a meaning; no arm raises it now. Safe. -/
  | notModelled (mnemonic : String)
  /-- Raised by a reset turn while BUSY = 1: "A model should ... refuse a reset at BUSY = 1"
  (70_reset_and_hazards.md R192). Safe: log 7. -/
  | resetWhileBusy
  deriving DecidableEq, Repr

/-- Everything the spec gives the machine, and the world outside it as plain data. -/
structure State where
  /-- PH, the phase: the micro-operation of the next step (R21). -/
  ph : PhaseCode
  /-- IDX, the slot the current reception wait fills (R22). -/
  idx : BitVec 7
  /-- CNT, the ticks of the current wait, an unsigned natural that never wraps (R23, R83); log 2. -/
  cnt : Nat
  /-- RAW[0..79], the raw sample (R24); log 2. -/
  raw : Vector Nat 80
  /-- BUF[0..4], the data buffer (R25). -/
  buf : Vector Byte 5
  /-- OUT[0..4], the last validated data buffer (R26). -/
  out : Vector Byte 5
  /-- OUT_VALID (R27). -/
  outValid : Flag
  /-- RES, the result code (R28, R64). -/
  res : ResCode
  /-- ORIG, the level the Power-Up Guard saw (R29). -/
  orig : Flag
  /-- VAR, the variant selector (R30). -/
  var : Flag
  /-- CRIT, 1 inside the critical section (R31). -/
  crit : Flag
  /-- The event trace, oldest event first (R41); log 5. -/
  trace : List PortEvent
  /-- The host accesses made, oldest first; log 5. -/
  hostLog : List HostEvent
  /-- The parameters of the machine; no step writes them (R8); log 1. -/
  params : Params
  /-- The levels the environment will answer, the next one first (R42). The model's own; log 3. -/
  answers : List Level
  /-- How many `PinGet` answers have been taken. The model's own; log 3. -/
  draws : Nat
  /-- Who makes the next steps; when it is empty, the sequencer. The model's own; log 4. -/
  schedule : List Turn
  /-- How many resets there were before this one. The model's own; log 6. -/
  resets : Nat
  deriving DecidableEq, Repr

/-- The state after the n-th reset of a machine with parameters `p` (R35, R190): flags and counters cleared,
no event, and the five unspecified registers at free values (DESIGN CHOICE, unsafe where two resets are
compared: log 6). One free value per reset is kept until it is written, so that two reads of an unwritten OUT or
VAR agree however many steps lie between them; R34 calls each such read a draw and R44 fixes the value only between
two sequencer steps, so that agreement is the model's choice too (DESIGN CHOICE, unsafe: log 6). An unspecified RAW slot still has only CW bits (R20). -/
def State.afterReset (p : Params) (n : Nat) : State where
  ph := Phase.idle
  idx := 0
  cnt := 0
  raw := (Config.resetRaw n).map (· % 2 ^ p.cw)
  buf := Config.resetBuf n
  out := Config.resetOut n
  outValid := 0
  res := 0
  orig := Config.resetOrig n
  var := Config.resetVar n
  crit := 0
  trace := []
  hostLog := []
  params := p
  answers := []
  draws := 0
  schedule := []
  resets := n

/-- The machine right after reset (R35). Nothing is scheduled and no answer is listed: log 14. -/
def State.reset : State := State.afterReset Config.params 0

end Sys2Proof.Machine
end

