-- ==== Sys2Proof/Machine/Flags.lean ====
section
/-! DEFINITION. Every value of a flag or a code the spec computes: the result codes, BUSY, STATUS, CTRL as
read, the checksum and the sentinel test. -/

namespace Sys2Proof.Machine

/-! The codes of RES (30_encoding.md R64). Codes 5, 6, 7 are reserved and never written (R68). -/

@[simp] abbrev Res.none : ResCode := 0#3
@[simp] abbrev Res.ok : ResCode := 1#3
@[simp] abbrev Res.noSignal : ResCode := 2#3
@[simp] abbrev Res.noData : ResCode := 3#3
@[simp] abbrev Res.checksum : ResCode := 4#3

/-- The code of an error condition (60_exceptions.md R170). -/
def ErrorKind.code : ErrorKind → ResCode
  | .noSignal => Res.noSignal
  | .noData => Res.noData
  | .checksum => Res.checksum

/-- BUSY = (PH != IDLE), derived and not stored (10_state.md R20, R32). -/
def State.busy (s : State) : Flag :=
  if s.ph = Phase.idle then 0 else 1

/-- STATUS: `0b0 ++ RES[2:0] ++ 0b0 ++ CRIT ++ OUT_VALID ++ BUSY` (R33, R66.4, R143). -/
def State.statusByte (s : State) : Byte :=
  0#1 ++ s.res ++ 0#1 ++ s.crit ++ s.outValid ++ s.busy

/-- CTRL as read: `0b000000 ++ VAR ++ 0b0` (R33, R143). -/
def State.ctrlByte (s : State) : Byte :=
  0#6 ++ s.var ++ 0#1

/-- `(BUF[0] + BUF[1] + BUF[2] + BUF[3]) mod 256`: "the same as adding in an 8-bit register and dropping each
carry out of bit 7" (44_checksum_commit.md R131). -/
def checksum (b : Vector Byte 5) : Byte :=
  b[0] + b[1] + b[2] + b[3]

/-- Some slot holds the sentinel TIMEOUT (43_bit_slicer.md R120, R123). -/
def hasSentinel (timeout : Nat) (raw : Vector Nat 80) : Bool :=
  decide (timeout ∈ raw.toList)

end Sys2Proof.Machine
end

