-- ==== Sys2Proof/Machine/Operands.lean ====
section
/-! DEFINITION. How operands are assembled from bits and slots (30_encoding.md R66): the level a wait
watches, the bit of a pair of counts, a byte of eight frame bits, the START word. -/

namespace Sys2Proof.Machine

/-! The level each wait waits for departure from; "it is part of the code" (R62, R84). -/

@[simp] abbrev levelAck1 : Level := Level.high
@[simp] abbrev levelAck2 : Level := Level.low
@[simp] abbrev levelAck3 : Level := Level.high
@[simp] abbrev levelRxLow : Level := Level.low
@[simp] abbrev levelRxHigh : Level := Level.high

/-- The low-phase count of bit i, slot 2i (R24, R66.2). -/
def lowCount (raw : Vector Nat 80) (i : Fin 40) : Nat := raw[2 * i.val]

/-- The high-phase count of bit i, slot 2i + 1 (R24, R66.2). -/
def highCount (raw : Vector Nat 80) (i : Fin 40) : Nat := raw[2 * i.val + 1]

/-- bit_i: 1 if the high count exceeds the low count, else 0 (43_bit_slicer.md R121). -/
def frameBit (raw : Vector Nat 80) (i : Fin 40) : BitVec 1 :=
  if highCount raw i > lowCount raw i then 1 else 0

/-- Bit j of byte k in order of arrival: b(8k + j) (R60, R66.1). -/
def byteBit (raw : Vector Nat 80) (k : Fin 5) (j : Fin 8) : BitVec 1 :=
  frameBit raw ⟨8 * k.val + j.val, by omega⟩

/-- `BUF[k] = b(8k) ++ b(8k+1) ++ ... ++ b(8k+7)`, first bit most significant (R66.1, R122). -/
def frameByte (raw : Vector Nat 80) (k : Fin 5) : Byte :=
  byteBit raw k 0 ++ byteBit raw k 1 ++ byteBit raw k 2 ++ byteBit raw k 3 ++
    byteBit raw k 4 ++ byteBit raw k 5 ++ byteBit raw k 6 ++ byteBit raw k 7

/-- The five bytes of a raw sample (R122). -/
def frameBytes (raw : Vector Nat 80) : Vector Byte 5 :=
  Vector.ofFn (frameByte raw)

/-- The byte a host writes to CTRL for START with variant v: `0b000000 ++ v ++ 0b1` (45_host_commands.md
R145). -/
def startWord (v : Flag) : Byte := 0#6 ++ v ++ 1#1

end Sys2Proof.Machine
end

