-- ==== Sys2Proof/Machine/Ops.lean ====
section
/-! DEFINITION. The named operations the meanings are written with: one writer per register, the port
operations (00_scope.md R13), the tick of the Pulse Sampler (40_pulse_sampler.md R80), taking an error
(60_exceptions.md R173) and the return from it (41_handshake.md R101), and the accesses of the host port
(45_host_commands.md R141 to R144). -/

namespace Sys2Proof.Machine

/-! One writer per register. -/

/-- `PH <- c`, the control transfer (R13). -/
def State.setPh (c : PhaseCode) (s : State) : State := { s with ph := c }

/-- `IDX <- i`. -/
def State.setIdx (i : BitVec 7) (s : State) : State := { s with idx := i }

/-- `CNT <- n`. -/
def State.setCnt (n : Nat) (s : State) : State := { s with cnt := n }

/-- `RAW[IDX] <- r`, for an IDX that names a slot. -/
def State.setSlot (r : Nat) (s : State) : State :=
  { s with raw := s.raw.setIfInBounds s.idx.toNat r }

/-- `BUF[k] <- ...` for all k. -/
def State.setBuf (b : Vector Byte 5) (s : State) : State := { s with buf := b }

/-- `OUT[k] <- ...` for all k. -/
def State.setOut (b : Vector Byte 5) (s : State) : State := { s with out := b }

/-- `OUT_VALID <- f`. -/
def State.setOutValid (f : Flag) (s : State) : State := { s with outValid := f }

/-- `RES <- c`. -/
def State.setRes (c : ResCode) (s : State) : State := { s with res := c }

/-- `ORIG <- b`. -/
def State.setOrig (b : Flag) (s : State) : State := { s with orig := b }

/-- `VAR <- v`. -/
def State.setVar (v : Flag) (s : State) : State := { s with var := v }

/-- `CRIT <- f`. -/
def State.setCrit (f : Flag) (s : State) : State := { s with crit := f }

/-! The ports. -/

/-- A port operation that returns nothing: "appended, in order, to the event trace" (R13, R41). -/
def State.emit (e : PortEvent) (s : State) : State := { s with trace := s.trace ++ [e] }

/-- The level the environment answers to the next `PinGet`: the next listed one, and where none is listed
any level (R42); log 3. -/
def State.pinAnswer (s : State) : Level :=
  match s.answers with
  | b :: _ => b
  | [] => Config.pinLevel s.draws

/-- What `PinGet` leaves: the answer is consumed and recorded; "A read has no side effect on the block"
(R42). -/
def State.afterPinGet (s : State) : State :=
  { s with
    answers := s.answers.tail
    draws := s.draws + 1
    trace := s.trace ++ [.pinGet s.pinAnswer] }

/-! Errors. -/

/-- `fail Kind`, the block's trap entry: `RES <- code of Kind`, `PH <- RESTORE`, and "That is all: nothing is
saved" (R173). -/
def State.fail (k : ErrorKind) (s : State) : State :=
  (s.setRes k.code).setPh Phase.restore

/-- The way back from an error, and the end of every read: `PinSet(ORIG)`, `PH <- IDLE` (R101, R177). -/
def State.restoreLine (s : State) : State :=
  (s.emit (.pinSet s.orig)).setPh Phase.idle

/-! The Pulse Sampler. -/

/-- One tick of a wait for departure from `level` (R80): one pin read, then the comparison, then the test
of the ceiling. `finish r` is the phase's continuation. A tick that does not finish leaves PH alone. -/
def State.tick (level : Level) (finish : Nat → State → State) (s : State) : State :=
  if s.pinAnswer ≠ level then
    finish s.cnt (s.afterPinGet.setCnt 0)
  else if s.cnt + 1 = s.params.timeout then
    finish s.params.timeout (s.afterPinGet.setCnt 0)
  else
    s.afterPinGet.setCnt (s.cnt + 1)

/-- The continuation of a transmission wait: NoSignal at the sentinel, else the next phase (R98 to R100). -/
def State.finishAck (next : PhaseCode) (r : Nat) (s : State) : State :=
  if r = s.params.timeout then s.fail .noSignal else s.setPh next

/-- The continuation of RX_LOW (42_reception.md R111). -/
def State.finishLow (r : Nat) (s : State) : State :=
  ((s.setSlot r).setIdx (s.idx + 1)).setPh Phase.rxHigh

/-- The continuation of RX_HIGH (R112): IDX stays 79 after the last wait. -/
def State.finishHigh (r : Nat) (s : State) : State :=
  if s.idx = 79 then
    (s.setSlot r).setPh Phase.critExit
  else
    ((s.setSlot r).setIdx (s.idx + 1)).setPh Phase.rxLow

/-- One tick of a reception wait. RAW has no slot above 79 (R20, R22): a wait for such a slot stops; log 9. -/
def State.receptionTick (level : Level) (finish : Nat → State → State) (s : State) :
    Host.Outcome State Fault Refusal :=
  if s.idx.toNat < 80 then .next (s.tick level finish) else .fault (.noSuchSlot s.idx)

/-! The host port. -/

/-- START (R141): one atomic step when PH = IDLE. "START while BUSY = 1 is ignored: no state changes ...
nothing is queued" (R142; unsafe where a real block is disturbed by it: log 12). -/
def State.startRead (v : Flag) (s : State) : State :=
  if s.ph = Phase.idle then
    ((((s.setVar v).setRes Res.none).setCnt 0).setIdx 0).setPh Phase.guardGet
  else s

/-- The value of `RegRead(n)` (R143). Register 7 reads 0. -/
def State.regRead (n : HostReg) (s : State) : Byte :=
  match n.toNat with
  | 0 => s.ctrlByte
  | 1 => s.statusByte
  | 2 => s.out[0]
  | 3 => s.out[1]
  | 4 => s.out[2]
  | 5 => s.out[3]
  | 6 => s.out[4]
  | _ => 0

/-- The instruction a host write is, if it is one: the only write with an effect is a CTRL byte that is START
(R44, R65, R144). -/
def hostWriteInstr (n : HostReg) (v : Byte) : Option Instr :=
  if n = 0 then (decode (.ctrl v)).toOption else none

/-- A completed host access is recorded (R69); log 5. -/
def State.logHost (e : HostEvent) (s : State) : State := { s with hostLog := s.hostLog ++ [e] }

/-! Turns. -/

/-- Who makes the next step (R47); log 4. -/
def State.nextTurn (s : State) : Turn :=
  match s.schedule with
  | t :: _ => t
  | [] => .sequencer

/-- The turn is taken. -/
def State.popTurn (s : State) : State := { s with schedule := s.schedule.tail }

/-- A host read: the value goes to the host and nothing else changes (R44, R143). -/
def State.hostRead (n : HostReg) (s : State) : State :=
  s.logHost (.read n (s.regRead n))

/-- The reset input. With BUSY = 0 the machine starts a new run in the state of R35, which performs no port
operation; what stands outside the block (the parameters, the answers to come, the turns to come) stays.
With BUSY = 1 it is refused (R190 to R192); log 7. -/
def State.takeReset (s : State) : Host.Outcome State Fault Refusal :=
  if s.ph = Phase.idle then
    .next { State.afterReset s.params (s.resets + 1) with
      answers := s.answers
      draws := s.draws
      schedule := s.schedule }
  else
    .refused .resetWhileBusy

end Sys2Proof.Machine
end

