-- ==== Sys2Proof/Machine/Commit.lean ====
section
/-! DEFINITION. The Checksum Validator and the commit of a read: CHECK, COMMIT (44_checksum_commit.md). -/

namespace Sys2Proof.Machine

/-- CHECK (R130): the fifth byte against the checksum of the other four. -/
def execCheck (s : State) : Host.Outcome State Fault Refusal :=
  .next (if s.buf[4] = checksum s.buf then s.setPh Phase.commit else s.fail .checksum)

/-- COMMIT (R132): `OUT <- BUF`, `OUT_VALID <- 1`, `RES <- OK`, in one step. -/
def execCommit (s : State) : Host.Outcome State Fault Refusal :=
  .next ((((s.setOut s.buf).setOutValid 1).setRes Res.ok).setPh Phase.restore)

end Sys2Proof.Machine
end

