-- ==== Sys2Proof/Machine/Handshake.lean ====
section
/-! DEFINITION. The Handshake Sequencer: HS_CFG_OUT, HS_LOW, HS_HOLD, HS_HIGH, HS_CFG_IN (41_handshake.md section 2). -/

namespace Sys2Proof.Machine

/-- HS_CFG_OUT (R93): `PinConfigure(OUTPUT)`. -/
def execHsCfgOut (s : State) : Host.Outcome State Fault Refusal :=
  .next ((s.emit (.pinConfigure .output)).setPh Phase.hsLow)

/-- HS_LOW (R94): `PinSet(0)`. -/
def execHsLow (s : State) : Host.Outcome State Fault Refusal :=
  .next ((s.emit (.pinSet Level.low)).setPh Phase.hsHold)

/-- HS_HOLD (R95): `Delay(START_LOW, VAR)`. The delay returns (R50, D12): log 13. -/
def execHsHold (s : State) : Host.Outcome State Fault Refusal :=
  .next ((s.emit (.delay (.startLow s.var))).setPh Phase.hsHigh)

/-- HS_HIGH (R96): `PinSet(1)`. -/
def execHsHigh (s : State) : Host.Outcome State Fault Refusal :=
  .next ((s.emit (.pinSet Level.high)).setPh Phase.hsCfgIn)

/-- HS_CFG_IN (R97): `PinConfigure(INPUT)`. -/
def execHsCfgIn (s : State) : Host.Outcome State Fault Refusal :=
  .next ((s.emit (.pinConfigure .input)).setPh Phase.ack1)

end Sys2Proof.Machine
end

