-- ==== Sys2Proof/Machine/HostCommands.lean ====
section
/-! DEFINITION. The idle micro-operation and the host command: IDLE, START (45_host_commands.md). -/

namespace Sys2Proof.Machine

/-- IDLE (R140): "no port operation, no state change, PH stays IDLE". -/
def execIdle (s : State) : Host.Outcome State Fault Refusal :=
  .next s

/-- START (R141, R142): VAR is bit 1 of the byte written; the reserved bits 7:2 are ignored (R65). -/
def execStart (variant : Nat) (_reserved : BitVec 6) (s : State) : Host.Outcome State Fault Refusal :=
  .next (s.startRead (BitVec.ofNat 1 variant))

end Sys2Proof.Machine
end

