-- ==== Sys2Proof/Machine/PowerUpGuard.lean ====
section
/-! DEFINITION. The Power-Up Guard: GUARD_GET, GUARD_SET, GUARD_SETTLE (41_handshake.md section 1). -/

namespace Sys2Proof.Machine

/-- GUARD_GET (R90): `b <- PinGet()`, `ORIG <- b`; a high line ends the guard, a low one goes to GUARD_SET. -/
def execGuardGet (s : State) : Host.Outcome State Fault Refusal :=
  .next ((s.afterPinGet.setOrig s.pinAnswer).setPh
    (if s.pinAnswer = Level.high then Phase.hsCfgOut else Phase.guardSet))

/-- GUARD_SET (R91): `PinSet(1)`. -/
def execGuardSet (s : State) : Host.Outcome State Fault Refusal :=
  .next ((s.emit (.pinSet Level.high)).setPh Phase.guardSettle)

/-- GUARD_SETTLE (R92): `Delay(SETTLE)`. The delay returns (R50, D12): log 13. -/
def execGuardSettle (s : State) : Host.Outcome State Fault Refusal :=
  .next ((s.emit (.delay .settle)).setPh Phase.hsCfgOut)

end Sys2Proof.Machine
end

