-- ==== Sys2Proof/Machine/Reception.lean ====
section
/-! DEFINITION. Signal Reception: CRIT_ENTER, RX_LOW, RX_HIGH, CRIT_EXIT (42_reception.md). -/

namespace Sys2Proof.Machine

/-- CRIT_ENTER (R110): `CritEnter`, `CRIT <- 1`, `IDX <- 0`. -/
def execCritEnter (s : State) : Host.Outcome State Fault Refusal :=
  .next ((((s.emit .critEnter).setCrit 1).setIdx 0).setPh Phase.rxLow)

/-- RX_LOW (R111): one tick of the wait for departure from low; the result, the sentinel included, goes to
RAW[IDX]. -/
def execRxLow (s : State) : Host.Outcome State Fault Refusal :=
  s.receptionTick levelRxLow State.finishLow

/-- RX_HIGH (R112): one tick of the wait for departure from high; after slot 79 reception ends. -/
def execRxHigh (s : State) : Host.Outcome State Fault Refusal :=
  s.receptionTick levelRxHigh State.finishHigh

/-- CRIT_EXIT (R113): `CritExit`, `CRIT <- 0`. -/
def execCritExit (s : State) : Host.Outcome State Fault Refusal :=
  .next (((s.emit .critExit).setCrit 0).setPh Phase.slice)

end Sys2Proof.Machine
end

