-- ==== Sys2Proof/Machine/Restore.lean ====
section
/-! DEFINITION. RESTORE, the last micro-operation of every read (41_handshake.md section 4). -/

namespace Sys2Proof.Machine

/-- RESTORE (R101): `PinSet(ORIG)`, `PH <- IDLE`; RES is not written. -/
def execRestore (s : State) : Host.Outcome State Fault Refusal :=
  .next s.restoreLine

end Sys2Proof.Machine
end

