-- ==== Sys2Proof/Machine/Slicer.lean ====
section
/-! DEFINITION. The Bit Decoder: SLICE (43_bit_slicer.md). -/

namespace Sys2Proof.Machine

/-- SLICE (R120): NoData if some slot holds the sentinel, and then BUF is not written; else the 80 counts
become the five bytes of BUF. -/
def execSlice (s : State) : Host.Outcome State Fault Refusal :=
  .next (if hasSentinel s.params.timeout s.raw then s.fail .noData
    else (s.setBuf (frameBytes s.raw)).setPh Phase.check)

end Sys2Proof.Machine
end

