-- ==== Sys2Proof/Machine/TransmissionWait.lean ====
section
/-! DEFINITION. The Transmission Wait: ACK1, ACK2, ACK3 (41_handshake.md section 3). -/

namespace Sys2Proof.Machine

/-- ACK1 (R98): one tick of the wait for departure from high. -/
def execAck1 (s : State) : Host.Outcome State Fault Refusal :=
  .next (s.tick levelAck1 (State.finishAck Phase.ack2))

/-- ACK2 (R99): one tick of the wait for departure from low. -/
def execAck2 (s : State) : Host.Outcome State Fault Refusal :=
  .next (s.tick levelAck2 (State.finishAck Phase.ack3))

/-- ACK3 (R100): one tick of the wait for departure from high. -/
def execAck3 (s : State) : Host.Outcome State Fault Refusal :=
  .next (s.tick levelAck3 (State.finishAck Phase.critEnter))

end Sys2Proof.Machine
end

