-- ==== Sys2Proof/Machine/Dispatch.lean ====
section
/-! DEFINITION. One arm per instruction (30_encoding.md R62). -/

namespace Sys2Proof.Machine

def exec (i : Instr) (s : State) : Host.Outcome State Fault Refusal :=
  match i with
  | .idle => Sys2Proof.Machine.execIdle s
  | .guardGet => Sys2Proof.Machine.execGuardGet s
  | .guardSet => Sys2Proof.Machine.execGuardSet s
  | .guardSettle => Sys2Proof.Machine.execGuardSettle s
  | .hsCfgOut => Sys2Proof.Machine.execHsCfgOut s
  | .hsLow => Sys2Proof.Machine.execHsLow s
  | .hsHold => Sys2Proof.Machine.execHsHold s
  | .hsHigh => Sys2Proof.Machine.execHsHigh s
  | .hsCfgIn => Sys2Proof.Machine.execHsCfgIn s
  | .ack1 => Sys2Proof.Machine.execAck1 s
  | .ack2 => Sys2Proof.Machine.execAck2 s
  | .ack3 => Sys2Proof.Machine.execAck3 s
  | .critEnter => Sys2Proof.Machine.execCritEnter s
  | .rxLow => Sys2Proof.Machine.execRxLow s
  | .rxHigh => Sys2Proof.Machine.execRxHigh s
  | .critExit => Sys2Proof.Machine.execCritExit s
  | .slice => Sys2Proof.Machine.execSlice s
  | .check => Sys2Proof.Machine.execCheck s
  | .commit => Sys2Proof.Machine.execCommit s
  | .restore => Sys2Proof.Machine.execRestore s
  | .start variant reserved => Sys2Proof.Machine.execStart variant reserved s

end Sys2Proof.Machine
end

