-- ==== Sys2Proof/Machine/Step.lean ====
section
/-! DEFINITION. One step of the machine: one micro-operation of the sequencer or one host access
(20_memory.md R46, R47; 30_encoding.md R62). -/

namespace Sys2Proof.Machine

/-- One step: "read PH; perform the micro-operation with that code" (R62), or one host access (R141 to R144),
or the reset input, as the next turn says. A host write that is START runs the instruction START; any other
is ignored. A reserved phase code is stuck (R67). -/
def step (s : State) : Host.Outcome State Fault Refusal :=
  match s.nextTurn with
  | .sequencer =>
    match decodePhase s.ph with
    | .ok i => exec i s.popTurn
    | .error _ => .fault (.stuckPhase s.ph)
  | .regRead n => .next (s.popTurn.hostRead n)
  | .regWrite n v =>
    match hostWriteInstr n v with
    | some i => exec i (s.popTurn.logHost (.wrote n v))
    | none => .next (s.popTurn.logHost (.wrote n v))
  | .reset => s.popTurn.takeReset

/-- `s` with a word placed where the next step finds its instruction: a phase code in PH, with the next turn
the sequencer's, or a host's write of a byte to CTRL as the next turn. The block has no instruction memory
(R49), so this stands for no load of a program: log 14. -/
def State.withFetchWord (s : State) (nbits w : Nat) : State :=
  match tableWord nbits w with
  | .phase code => { s with ph := code, schedule := .sequencer :: s.schedule }
  | .ctrl byte => { s with schedule := .regWrite 0 byte :: s.schedule }

end Sys2Proof.Machine
end

