-- ==== Sys2Proof/Machine/HostProtocol.lean ====
section
/-! DEFINITION. The host's protocol for one read (45_host_commands.md R145), run on the machine: software that
accesses the eight host registers one at a time while the sequencer makes steps of its own in between.

A list of GAPS says how many steps the sequencer makes before each access; the host is the only one that makes
accesses meanwhile. Every finite interleaving of one call with the sequencer is some list of gaps (R47), and a
list that runs out leaves the call waiting. The gaps are the model's own: log 19. -/

namespace Sys2Proof.Machine

/-! One step of each. -/

/-- A step made by `t` now; the turns scheduled stay scheduled. -/
def State.stepBy (t : Turn) (s : State) : Host.Outcome State Fault Refusal :=
  step { s with schedule := t :: s.schedule }

/-- `k` steps of the sequencer, up to the first stop. -/
def sequencerSteps : Nat → State → Host.Outcome State Fault Refusal
  | 0, s => .next s
  | k + 1, s =>
    match s.stepBy .sequencer with
    | .next u => sequencerSteps k u
    | .fault r => .fault r
    | .refused r => .refused r

/-! Calls. -/

/-- How far a call has come: it has returned and leaves the gaps it did not use, or it waits, the block being in
state `s`. -/
inductive Progress (α : Type) where
  | returned (a : α) (gaps : List Nat)
  | waiting (s : State)
  deriving DecidableEq, Repr

/-- What a call of the host's software does, or why the machine stopped under it. -/
abbrev Call (α : Type) : Type := Host.Outcome (Progress α) Fault Refusal

/-- Go on with what a call has returned. -/
def Call.andThen {α β : Type} (c : Call α) (f : α → List Nat → Call β) : Call β :=
  match c with
  | .next (.returned a gaps) => f a gaps
  | .next (.waiting s) => .next (.waiting s)
  | .fault r => .fault r
  | .refused r => .refused r

/-- One host access, after the first gap. -/
def hostAccess (t : Turn) (s : State) : List Nat → Call State
  | [] => .next (.waiting s)
  | k :: gaps =>
    match sequencerSteps k s with
    | .next u =>
      match u.stepBy t with
      | .next v => .next (.returned v gaps)
      | .fault r => .fault r
      | .refused r => .refused r
    | .fault r => .fault r
    | .refused r => .refused r

/-- `R n`: the value read, and the state the read leaves, from which the value can as well be taken, since a
read changes no register (R143). -/
def readRegister (n : HostReg) (s : State) (gaps : List Nat) : Call (Byte × State) :=
  (hostAccess (.regRead n) s gaps).andThen fun u rest => .next (.returned (u.regRead n, u) rest)

/-- `W n <- v`. -/
def writeRegister (n : HostReg) (v : Byte) (s : State) (gaps : List Nat) : Call State :=
  hostAccess (.regWrite n v) s gaps

/-! The fields of a STATUS byte as software takes them apart (10_state.md R33). -/

/-- BUSY, STATUS[0]. -/
def statusBusy (status : Byte) : Flag := status.extractLsb' 0 1

/-- RES, STATUS[6:4]. -/
def statusRes (status : Byte) : ResCode := status.extractLsb' 4 3

/-- The error a result code names, if it names one (30_encoding.md R64). -/
def ErrorKind.ofCode (c : ResCode) : Option ErrorKind :=
  match c.toNat with
  | 2 => some .noSignal
  | 3 => some .noData
  | 4 => some .checksum
  | _ => none

/-- The outcome of one read as the host learns it (R145 step 4). -/
inductive ReadResult where
  | bytes (b : Vector Byte 5)
  | error (k : ErrorKind)
  deriving DecidableEq, Repr

/-- What the registers of a state tell of the last read (R145 step 4). Nothing while a read is in flight, and,
which is the model's choice, nothing for RES = NONE and for the reserved codes: log 17. -/
def State.readResult (s : State) : Option ReadResult :=
  if statusBusy (s.regRead 1) = 1 then none
  else if statusRes (s.regRead 1) = Res.ok then
    some (.bytes #v[s.regRead 2, s.regRead 3, s.regRead 4, s.regRead 5, s.regRead 6])
  else (ErrorKind.ofCode (statusRes (s.regRead 1))).map .error

/-! The protocol. -/

/-- `R STATUS until BUSY = 0` (R145 steps 1 and 3): the STATUS byte that had BUSY = 0. -/
def pollUntilIdle : List Nat → State → Call (Byte × State)
  | [], s => .next (.waiting s)
  | k :: gaps, s =>
    (readRegister 1 s [k]).andThen fun (status, u) _ =>
      if statusBusy status = 0 then .next (.returned (status, u) gaps) else pollUntilIdle gaps u

/-- `R DATA0..DATA4`, in this order (R145 step 4). -/
def readData (s : State) (gaps : List Nat) : Call (Vector Byte 5 × State) :=
  (readRegister 2 s gaps).andThen fun (b0, s) gaps =>
  (readRegister 3 s gaps).andThen fun (b1, s) gaps =>
  (readRegister 4 s gaps).andThen fun (b2, s) gaps =>
  (readRegister 5 s gaps).andThen fun (b3, s) gaps =>
  (readRegister 6 s gaps).andThen fun (b4, s) gaps =>
    .next (.returned (#v[b0, b1, b2, b3, b4], s) gaps)

/-- Step 4: "look at RES", in the STATUS byte that ended step 3, and read DATA if it is OK. The call does not
return on RES = NONE or a reserved code, which no read ends with: log 19. -/
def lookAtResult (status : Byte) (s : State) (gaps : List Nat) : Call (ReadResult × State) :=
  if statusRes status = Res.ok then
    (readData s gaps).andThen fun (b, u) rest => .next (.returned (.bytes b, u) rest)
  else
    match ErrorKind.ofCode (statusRes status) with
    | some k => .next (.returned (.error k, s) gaps)
    | none => .next (.waiting s)

/-- The host's protocol for one read with variant `v`, its four steps in order (R145). -/
def performRead (v : Flag) (s : State) (gaps : List Nat) : Call (ReadResult × State) :=
  (pollUntilIdle gaps s).andThen fun (_, s) gaps =>
  (writeRegister 0 (startWord v) s gaps).andThen fun s gaps =>
  (pollUntilIdle gaps s).andThen fun (status, s) gaps =>
    lookAtResult status s gaps

end Sys2Proof.Machine
end

