-- ==== Sys2Proof/Machine/Software.lean ====
section
/-! DEFINITION. The surrounding software of 46_surrounding_software.md: the Variant Decoder, the Device and
the Managed Device, as software that runs the host's protocol of Machine/HostProtocol.lean on the block it owns.
It is outside the hardware block (00_scope.md R5): no step of the machine calls it and State holds none of it.
Log 17, log 18, log 19. -/

namespace Sys2Proof.Machine

/-- Temperature, signed tenths of a degree, and humidity, unsigned tenths of a percent (R150). -/
structure Measurement where
  temperature : Int
  humidity : Nat
  deriving DecidableEq, Repr

/-- Integer variant: byte 0 is the humidity and byte 2 the temperature, in whole units (R151). -/
def extractInteger (b : Vector Byte 5) : Measurement where
  humidity := b[0].toNat * 10
  temperature := b[2].toNat * 10

/-- Fixed-point variant: byte0:byte1 the humidity, byte2:byte3 the temperature as sign and magnitude
(R152). -/
def extractFixed (b : Vector Byte 5) : Measurement where
  humidity := b[0].toNat * 256 + b[1].toNat
  temperature :=
    let magnitude : Int := ((b[2].toNat % 128) * 256 + b[3].toNat : Nat)
    if b[2].getLsbD 7 then -magnitude else magnitude

/-- `extractData` of the variant selected by VAR: 0 the integer one, 1 the fixed-point one (R30, R150). -/
def extractData (variant : Flag) (b : Vector Byte 5) : Measurement :=
  if variant = 0 then extractInteger b else extractFixed b

/-- The four errors a caller sees (R163). -/
inductive CallError where
  | noSignal
  | noData
  | checksum
  | uninitialized
  deriving DecidableEq, Repr

/-- The caller's error for an error of a read (R163). -/
def ErrorKind.toCallError : ErrorKind → CallError
  | .noSignal => .noSignal
  | .noData => .noData
  | .checksum => .checksum

/-- What a call returns: a value or one of the four errors. -/
inductive Reply (α : Type) where
  | value (a : α)
  | error (e : CallError)
  deriving DecidableEq, Repr

/-- The Device (R154): the block on whose pin port the line hangs, which stands for the "exclusively-owned pin
handle", its variant selector, which is what it writes to CTRL[1], and the last decoded measurement, absent while
the initialized flag is not set (R156). A block is held by one Device (R164). -/
structure Device where
  block : State
  variant : Flag
  last : Option Measurement
  deriving DecidableEq, Repr

/-- The constructor touches neither pin nor block (R162). -/
def Device.new (block : State) (variant : Flag) : Device where
  block := block
  variant := variant
  last := none

/-- What the Device makes of the result of a read: on success decode, store and mark initialized; on an error
store nothing (R155). -/
def Device.takeResult (r : ReadResult) (d : Device) : Reply Measurement × Device :=
  match r with
  | .bytes b => (.value (extractData d.variant b), { d with last := some (extractData d.variant b) })
  | .error k => (.error k.toCallError, d)

/-- `Device.Measurements()`, "one full read cycle": the host's protocol with the Device's variant on the
Device's block, and then its result (R146, R155). -/
def Device.measurements (gaps : List Nat) (d : Device) : Call (Reply Measurement × Device) :=
  (performRead d.variant d.block gaps).andThen fun (r, u) rest =>
    .next (.returned ({ d with block := u }.takeResult r) rest)

/-- An accessor: the last stored value, or Uninitialized (R156, R175). -/
def Device.access {α : Type} (f : Measurement → α) (d : Device) : Reply α :=
  match d.last with
  | some m => .value (f m)
  | none => .error .uninitialized

/-- `Temperature()` (R156). -/
def Device.temperature (d : Device) : Reply Int := d.access Measurement.temperature

/-- `Humidity()` (R156). -/
def Device.humidity (d : Device) : Reply Nat := d.access Measurement.humidity

/-- The two scales the document names (R157, "e.g., Celsius, Fahrenheit"). Whether there are others is left open
(U19, N14); that the list closes at these two is the model's choice (DESIGN CHOICE, unsafe for a claim about every
scale): log 18. -/
inductive Scale where
  | celsius
  | fahrenheit
  deriving DecidableEq, Repr

/-- Degrees, as the exact rational before any rounding (the float format is not given, U19): log 18. The
Fahrenheit formula is PRESUMED (R157 marks it as general knowledge; unsafe): log 18. -/
def degrees (scale : Scale) (tenths : Int) : Rat :=
  match scale with
  | .celsius => tenths / 10
  | .fahrenheit => (tenths / 10) * 9 / 5 + 32

/-- `TemperatureFloat(scale)` (R157). -/
def Device.temperatureFloat (scale : Scale) (d : Device) : Reply Rat :=
  d.access fun m => degrees scale m.temperature

/-- `HumidityFloat()`: tenths divided by 10 (R157). -/
def Device.humidityFloat (d : Device) : Reply Rat :=
  d.access fun m => (m.humidity : Rat) / 10

/-- The update policy (R158), its interval in milliseconds (the clock's resolution is not given, U20):
log 17. -/
structure UpdatePolicy where
  interval : Nat
  updateAutomatically : Bool
  deriving DecidableEq, Repr

/-- "2-second interval, automatic updates enabled" (R158). -/
def UpdatePolicy.default : UpdatePolicy where
  interval := 2000
  updateAutomatically := true

/-- The Managed Device: a Device, a policy and the time of the last successful read (R159). -/
structure ManagedDevice where
  device : Device
  policy : UpdatePolicy
  lastSuccess : Option Nat
  deriving DecidableEq, Repr

/-- `NewWithPolicy(pin, deviceVariant, policy)` (R162). -/
def ManagedDevice.newWithPolicy (block : State) (variant : Flag) (policy : UpdatePolicy) :
    ManagedDevice where
  device := Device.new block variant
  policy := policy
  lastSuccess := none

/-- `New(pin, deviceVariant)` (R162). -/
def ManagedDevice.new (block : State) (variant : Flag) : ManagedDevice :=
  ManagedDevice.newWithPolicy block variant UpdatePolicy.default

/-- Whether `Measurements()` called at time `now` issues a physical read (R160). -/
def ManagedDevice.mustRead (now : Nat) (m : ManagedDevice) : Bool :=
  m.policy.updateAutomatically &&
    match m.lastSuccess with
    | none => true
    | some t => decide (m.policy.interval ≤ now - t)

/-- What the Managed Device makes of its Device's answer to a read asked for at time `now`: "on success update
the cached timestamp and values; on failure, leave cached values unchanged and propagate the error" (R160). The
cache is the Device's own `last`, which `Device.takeResult` has updated or left. -/
def ManagedDevice.takeReply (now : Nat) (reply : Reply Measurement) (d : Device) (m : ManagedDevice) :
    Reply Measurement × ManagedDevice :=
  match reply with
  | .value _ => (reply, { m with device := d, lastSuccess := some now })
  | .error _ => (reply, { m with device := d })

/-- A physical read at time `now`: "delegate to Device.Measurements" (R160). -/
def ManagedDevice.physicalRead (now : Nat) (gaps : List Nat) (m : ManagedDevice) :
    Call (Reply Measurement × ManagedDevice) :=
  (m.device.measurements gaps).andThen fun (reply, d) rest =>
    .next (.returned (m.takeReply now reply d) rest)

/-- `ManagedDevice.Measurements()` at time `now` (R160): a physical read, or the cached values "without touching
hardware". -/
def ManagedDevice.measurements (now : Nat) (gaps : List Nat) (m : ManagedDevice) :
    Call (Reply Measurement × ManagedDevice) :=
  if m.mustRead now then m.physicalRead now gaps
  else .next (.returned (m.device.access id, m) gaps)

/-- What is left of a reply when its value is discarded. -/
def Reply.discard {α : Type} : Reply α → Reply Unit
  | .value _ => .value ()
  | .error e => .error e

/-- `ReadMeasurements()` at time `now`: the explicit refresh, which reads "whatever the interval and the flag
say" and returns only the error, if any (R146, R161). -/
def ManagedDevice.readMeasurements (now : Nat) (gaps : List Nat) (m : ManagedDevice) :
    Call (Reply Unit × ManagedDevice) :=
  (m.physicalRead now gaps).andThen fun (reply, m') rest =>
    .next (.returned (reply.discard, m') rest)

end Sys2Proof.Machine
end

