-- ==== Sys2Proof/Safety.lean ====
section
/-! DEFINITION. The terms claims use: the invariants of 10_state.md R36 and what a stop is. -/

namespace Sys2Proof.Machine

/-- The phases of a wait, format W (R61). -/
@[simp] abbrev waitPhases : List PhaseCode :=
  [Phase.ack1, Phase.ack2, Phase.ack3, Phase.rxLow, Phase.rxHigh]

/-- The invariants of R36, by item, and what must be added for a step to keep them. -/
structure State.Inv (s : State) : Prop where
  /-- R8. -/
  params_wf : s.params.wf
  /-- R36.1. -/
  ph_legal : s.ph.toNat < 20
  /-- R36.2. -/
  cnt_wait : s.cnt ≠ 0 → s.ph ∈ waitPhases
  /-- R36.2, R23: CNT is at most TIMEOUT - 1. -/
  cnt_lt : s.cnt < s.params.timeout
  /-- R36.3. -/
  crit_iff : s.crit = 1 ↔ s.ph ∈ [Phase.rxLow, Phase.rxHigh, Phase.critExit]
  /-- R36.4. -/
  idx_even : s.ph = Phase.rxLow → s.idx.toNat % 2 = 0
  /-- R36.4. -/
  idx_odd : s.ph = Phase.rxHigh → s.idx.toNat % 2 = 1
  /-- R36.4. -/
  idx_le : s.idx.toNat ≤ 79
  /-- R36.5: in IDLE with RES = NONE no read has finished since reset; the block has then done no port
  operation at all. -/
  idle_res : s.ph = Phase.idle → s.res ≠ Res.none ∨ s.trace = []
  /-- R27, R36.5: where no read has finished since reset, none has succeeded. -/
  idle_valid : s.ph = Phase.idle → s.res = Res.none → s.outValid = 0
  /-- R36.6. -/
  ok_valid : s.res = Res.ok → s.outValid = 1
  /-- R36.7, R133. -/
  out_sum : s.outValid = 1 → s.out[4] = checksum s.out
  /-- R36.8. -/
  active_res : 1 ≤ s.ph.toNat → s.ph.toNat ≤ 0x12 → s.res = Res.none
  /-- R36.8: the step that goes to RESTORE has written RES. -/
  restore_res : s.ph = Phase.restore → s.res ≠ Res.none
  /-- R68: the codes 5 to 7 are never written. -/
  res_legal : s.res.toNat ≤ 4
  /-- R132, R133: COMMIT is reached from CHECK only, with a valid BUF. -/
  buf_sum : s.ph = Phase.commit → s.buf[4] = checksum s.buf
  /-- R20: every slot fits in CW bits. -/
  raw_fits : ∀ j : Fin 80, s.raw[j] < 2 ^ s.params.cw
  /-- R24: the slots a reception has filled hold 0..TIMEOUT. -/
  raw_filled : s.ph ∈ [Phase.rxLow, Phase.rxHigh] →
    ∀ j : Fin 80, j.val < s.idx.toNat → s.raw[j] ≤ s.params.timeout
  /-- R24, R114: after reception every slot does. -/
  raw_all : s.ph ∈ [Phase.critExit, Phase.slice] → ∀ j : Fin 80, s.raw[j] ≤ s.params.timeout

/-- The guard port is balanced (20_memory.md R51): in the trace there are as many `CritExit` as `CritEnter`,
but for the one that CRIT says is open. -/
def State.GuardBalanced (s : State) : Prop :=
  s.trace.count .critEnter = s.trace.count .critExit + s.crit.toNat

/-- The line is restored (41_handshake.md R101): in IDLE the block has done nothing since reset, or its last
port operation was `PinSet(ORIG)`. -/
def State.LineRestored (s : State) : Prop :=
  s.ph = Phase.idle → s.trace = [] ∨ s.trace.getLast? = some (.pinSet s.orig)

/-- `k` steps of the machine, up to the first stop: `Host.Core.run` of `core`, written over `step`. -/
def runSteps : Nat → State → Host.Outcome State Fault Refusal
  | 0, s => .next s
  | k + 1, s =>
    match step s with
    | .next u => runSteps k u
    | .fault r => .fault r
    | .refused r => .refused r

/-- The sequencer moves at every coming step (the host makes no access). -/
def State.HostQuiet (s : State) : Prop := s.schedule = []

end Sys2Proof.Machine
end

