-- ==== Sys2Proof/Certificates/Slice0/Obligations.lean ====
section
/-! DEFINITION. The statements for the provers, from the numbered rules of spec/.

An equation `exec i s = .next { s with ... }` says the result, that the instruction completes, and its frame
at once: every field not named keeps its value. The fields `answers`, `draws`, `schedule`, `hostLog` and
`resets` are the model's own (log 3, 4, 5, 6); a statement that says what happens to one of them by value
rests on the model's choice there. `s.pinAnswer` is whatever level the environment answers: no statement
rests on its value. -/

open Sys2Proof Sys2Proof.Machine

/-! ### The ports and the Power-Up Guard -/

/-- One `PinGet` takes one answer: the next listed one, and where none is listed the free value of that draw;
it is recorded and nothing else changes (R42). The list and the counter are the model's own: log 3. -/
def Obligations.PinGetTakesTheNextAnswer : Prop :=
  (∀ (s : State) (b : Level) (rest : List Level), s.answers = b :: rest →
    s.pinAnswer = b ∧
    s.afterPinGet =
      { s with answers := rest, draws := s.draws + 1, trace := s.trace ++ [.pinGet b] }) ∧
  (∀ s : State, s.answers = [] →
    s.pinAnswer = Config.pinLevel s.draws ∧
    s.afterPinGet =
      { s with draws := s.draws + 1, trace := s.trace ++ [.pinGet s.pinAnswer] })

/-- R90: `b <- PinGet()`, `ORIG <- b`, then HS_CFG_OUT if b = 1, else GUARD_SET. -/
def Obligations.GuardGetReadsOnceAndBranches : Prop :=
  ∀ s : State, exec .guardGet s = .next { s.afterPinGet with
    orig := s.pinAnswer
    ph := if s.pinAnswer = 1#1 then 0x04#5 else 0x02#5 }

/-- R91, R92: GUARD_SET drives the line high, GUARD_SETTLE asks for the settle delay; GUARD_SET is reached from
GUARD_GET only, with ORIG = 0. -/
def Obligations.GuardDrivesHighAndSettles : Prop :=
  (∀ s : State,
    exec .guardSet s = .next { s with ph := 0x03#5, trace := s.trace ++ [.pinSet 1#1] } ∧
    exec .guardSettle s = .next { s with ph := 0x04#5, trace := s.trace ++ [.delay .settle] }) ∧
  (∀ (i : Instr) (s t : State), exec i s = .next t → s.ph ≠ 0x02#5 → t.ph = 0x02#5 →
    i = .guardGet ∧ t.orig = 0#1)

/-! ### The handshake -/

/-- R93 to R97: one port operation each and the next phase, nothing else. -/
def Obligations.HandshakeMicroOperations : Prop :=
  ∀ s : State,
    exec .hsCfgOut s =
      .next { s with ph := 0x05#5, trace := s.trace ++ [.pinConfigure .output] } ∧
    exec .hsLow s = .next { s with ph := 0x06#5, trace := s.trace ++ [.pinSet 0#1] } ∧
    exec .hsHold s =
      .next { s with ph := 0x07#5, trace := s.trace ++ [.delay (.startLow s.var)] } ∧
    exec .hsHigh s = .next { s with ph := 0x08#5, trace := s.trace ++ [.pinSet 1#1] } ∧
    exec .hsCfgIn s =
      .next { s with ph := 0x09#5, trace := s.trace ++ [.pinConfigure .input] }

/-- R97: the whole handshake is the same five events, in this order, and the port operation that follows
`PinConfigure(INPUT)` is the first `PinGet` of ACK1. The host makes no access meanwhile. -/
def Obligations.HandshakeIsFiveEvents : Prop :=
  ∀ s : State, s.HostQuiet → s.ph = 0x04#5 →
    runSteps 5 s = .next { s with
      ph := 0x09#5
      trace := s.trace ++ [.pinConfigure .output, .pinSet 0#1, .delay (.startLow s.var), .pinSet 1#1,
        .pinConfigure .input] } ∧
    ∃ t, runSteps 6 s = .next t ∧
      t.trace = s.trace ++ [.pinConfigure .output, .pinSet 0#1, .delay (.startLow s.var), .pinSet 1#1,
        .pinConfigure .input, .pinGet s.pinAnswer]

/-! ### The waits -/

/-- R98, R99, R100 with the tick of R80: a departure ends the wait and goes on, the sentinel fails with
NoSignal, any other tick counts. (The second clause is the corner, outside R36, where CNT already holds
TIMEOUT: the result is then the sentinel.) -/
def Obligations.TransmissionWaitTick : Prop :=
  ∀ (s : State) (i : Instr) (level : Level) (nxt : PhaseCode),
    (i, level, nxt) ∈ [(Instr.ack1, 1#1, 0x0A#5), (.ack2, 0#1, 0x0B#5), (.ack3, 1#1, 0x0C#5)] →
    (s.pinAnswer ≠ level → s.cnt ≠ s.params.timeout →
      exec i s = .next { s.afterPinGet with cnt := 0, ph := nxt }) ∧
    (s.pinAnswer ≠ level → s.cnt = s.params.timeout →
      exec i s = .next { s.afterPinGet with cnt := 0, res := 2#3, ph := 0x13#5 }) ∧
    (s.pinAnswer = level → s.cnt + 1 = s.params.timeout →
      exec i s = .next { s.afterPinGet with cnt := 0, res := 2#3, ph := 0x13#5 }) ∧
    (s.pinAnswer = level → s.cnt + 1 ≠ s.params.timeout →
      exec i s = .next { s.afterPinGet with cnt := s.cnt + 1 })

/-- R111 with the tick of R80: the result, the sentinel included, goes to RAW[IDX], IDX goes up, RX_HIGH
follows; a tick that does not finish only counts. -/
def Obligations.RxLowTick : Prop :=
  ∀ s : State, s.idx.toNat < 80 →
    (s.pinAnswer ≠ 0#1 → exec .rxLow s = .next { s.afterPinGet with
      cnt := 0, raw := s.raw.setIfInBounds s.idx.toNat s.cnt, idx := s.idx + 1, ph := 0x0E#5 }) ∧
    (s.pinAnswer = 0#1 → s.cnt + 1 = s.params.timeout → exec .rxLow s = .next { s.afterPinGet with
      cnt := 0, raw := s.raw.setIfInBounds s.idx.toNat s.params.timeout, idx := s.idx + 1,
      ph := 0x0E#5 }) ∧
    (s.pinAnswer = 0#1 → s.cnt + 1 ≠ s.params.timeout →
      exec .rxLow s = .next { s.afterPinGet with cnt := s.cnt + 1 })

/-- R112 with the tick of R80: as RX_LOW with level 1; after slot 79 IDX stays and CRIT_EXIT follows. -/
def Obligations.RxHighTick : Prop :=
  ∀ s : State, s.idx.toNat < 80 →
    (∀ r : Nat,
      (s.pinAnswer ≠ 1#1 ∧ r = s.cnt) ∨
        (s.pinAnswer = 1#1 ∧ s.cnt + 1 = s.params.timeout ∧ r = s.params.timeout) →
      (s.idx.toNat = 79 → exec .rxHigh s = .next { s.afterPinGet with
        cnt := 0, raw := s.raw.setIfInBounds 79 r, ph := 0x0F#5 }) ∧
      (s.idx.toNat ≠ 79 → exec .rxHigh s = .next { s.afterPinGet with
        cnt := 0, raw := s.raw.setIfInBounds s.idx.toNat r, idx := s.idx + 1, ph := 0x0D#5 })) ∧
    (s.pinAnswer = 1#1 → s.cnt + 1 ≠ s.params.timeout →
      exec .rxHigh s = .next { s.afterPinGet with cnt := s.cnt + 1 })

/-- RAW has the slots 0..79 (R20): a reception wait with IDX above 79 stops by name. Where to stop is the
model's choice: log 9. -/
def Obligations.ReceptionStopsOutsideTheSlots : Prop :=
  ∀ s : State, 80 ≤ s.idx.toNat →
    exec .rxLow s = .fault (.noSuchSlot s.idx) ∧ exec .rxHigh s = .fault (.noSuchSlot s.idx)

/-- R110, R113: the brackets of the critical section. -/
def Obligations.CriticalSectionBrackets : Prop :=
  ∀ s : State,
    exec .critEnter s =
      .next { s with crit := 1#1, idx := 0#7, ph := 0x0D#5, trace := s.trace ++ [.critEnter] } ∧
    exec .critExit s =
      .next { s with crit := 0#1, ph := 0x10#5, trace := s.trace ++ [.critExit] }

/-- R81, R82 for the acknowledgement waits: from the first tick of a wait, n answers equal to its level and then
one that differs take n + 1 steps and go on when n < TIMEOUT; TIMEOUT answers equal to it take TIMEOUT steps
and fail, whatever comes next. The list of answers is the model's own: log 3. -/
def Obligations.AckWaitCountsTheRun : Prop :=
  ∀ (s : State) (code nxt : PhaseCode) (level : Level) (n : Nat) (rest : List Level),
    (code, level, nxt) ∈ [(0x09#5, 1#1, 0x0A#5), (0x0A#5, 0#1, 0x0B#5), (0x0B#5, 1#1, 0x0C#5)] →
    s.HostQuiet → s.ph = code → s.cnt = 0 → 1 ≤ s.params.timeout →
    (n < s.params.timeout → s.answers = List.replicate n level ++ ~~~level :: rest →
      runSteps (n + 1) s = .next { s with
        ph := nxt, answers := rest, draws := s.draws + n + 1
        trace := s.trace ++ List.replicate n (.pinGet level) ++ [.pinGet (~~~level)] }) ∧
    (n = s.params.timeout → s.answers = List.replicate n level ++ rest →
      runSteps n s = .next { s with
        ph := 0x13#5, res := 2#3, answers := rest, draws := s.draws + n
        trace := s.trace ++ List.replicate n (.pinGet level) })

/-- R81, R82 for the reception waits: the slot gets the length of the run of equal answers, or TIMEOUT, and the
next wait starts with the answer after the ones consumed. (The wait for slot 79, which ends reception, is part of
`ReceptionRecordsTheFrame`.) The list of answers is the model's own: log 3. -/
def Obligations.ReceptionWaitStoresTheRun : Prop :=
  ∀ (s : State) (level : Level) (n : Nat) (rest : List Level),
    s.HostQuiet → s.cnt = 0 → 1 ≤ s.params.timeout →
    (s.ph = 0x0D#5 ∧ level = 0#1 ∧ s.idx.toNat < 80 ∨
      s.ph = 0x0E#5 ∧ level = 1#1 ∧ s.idx.toNat < 79) →
    (n < s.params.timeout → s.answers = List.replicate n level ++ ~~~level :: rest →
      runSteps (n + 1) s = .next { s with
        ph := if level = 0#1 then 0x0E#5 else 0x0D#5
        raw := s.raw.setIfInBounds s.idx.toNat n, idx := s.idx + 1
        answers := rest, draws := s.draws + n + 1
        trace := s.trace ++ List.replicate n (.pinGet level) ++ [.pinGet (~~~level)] }) ∧
    (n = s.params.timeout → s.answers = List.replicate n level ++ rest →
      runSteps n s = .next { s with
        ph := if level = 0#1 then 0x0E#5 else 0x0D#5
        raw := s.raw.setIfInBounds s.idx.toNat n, idx := s.idx + 1
        answers := rest, draws := s.draws + n
        trace := s.trace ++ List.replicate n (.pinGet level) })

/-! ### The slicer, the checksum and the commit -/

/-- R120: with a sentinel in any slot, NoData and BUF not written; else BUF written and CHECK next. -/
def Obligations.SliceTestsTheSentinelFirst : Prop :=
  ∀ s : State,
    ((∃ j : Fin 80, s.raw[j] = s.params.timeout) →
      exec .slice s = .next { s with res := 3#3, ph := 0x13#5 }) ∧
    ((∀ j : Fin 80, s.raw[j] ≠ s.params.timeout) →
      ∃ b : Vector Byte 5, exec .slice s = .next { s with buf := b, ph := 0x11#5 })

/-- R121, R122: after a successful SLICE bit 7 - j of BUF[k] is 1 exactly when the high count of frame bit
8k + j exceeds its low count. -/
def Obligations.SliceComparesEachPair : Prop :=
  ∀ s t : State, (∀ j : Fin 80, s.raw[j] ≠ s.params.timeout) → exec .slice s = .next t →
    ∀ (k : Fin 5) (j : Fin 8),
      t.buf[k].getLsbD (7 - j.val) =
        decide (s.raw[2 * (8 * k.val + j.val) + 1]'(by omega) >
          s.raw[2 * (8 * k.val + j.val)]'(by omega))

/-- R122: `byte_k(RAW) = sum over j in 0..7 of bit_(8k+j) * 2^(7-j)`. -/
def Obligations.FrameByteIsTheWeightedSum : Prop :=
  ∀ (raw : Vector Nat 80) (k : Fin 5),
    (frameByte raw k).toNat =
      ∑ j : Fin 8, (if raw[2 * (8 * k.val + j.val) + 1]'(by omega) >
        raw[2 * (8 * k.val + j.val)]'(by omega) then 1 else 0) * 2 ^ (7 - j.val)

/-- R124 (b), (c), (d), (e): the slicer does not see a common factor, nor a constant added to both slots of a
pair; raising a high count or lowering a low one never clears a bit; an equal pair is a 0. -/
def Obligations.SlicerComparesOnlyWithinAPair : Prop :=
  (∀ (raw : Vector Nat 80) (c : Nat), 0 < c → frameBytes (raw.map (· * c)) = frameBytes raw) ∧
  (∀ (raw raw' : Vector Nat 80) (d : Fin 40 → Nat),
    (∀ i, lowCount raw' i = lowCount raw i + d i ∧ highCount raw' i = highCount raw i + d i) →
    frameBytes raw' = frameBytes raw) ∧
  (∀ (raw raw' : Vector Nat 80) (i : Fin 40),
    lowCount raw' i ≤ lowCount raw i → highCount raw i ≤ highCount raw' i →
    frameBit raw i = 1#1 → frameBit raw' i = 1#1) ∧
  (∀ (raw : Vector Nat 80) (i : Fin 40), highCount raw i = lowCount raw i → frameBit raw i = 0#1)

/-- R130, R131: CHECK passes exactly when byte 4 is the sum of bytes 0 to 3 modulo 256. -/
def Obligations.CheckComparesTheSumModulo256 : Prop :=
  ∀ s : State,
    (s.buf[4].toNat =
        (s.buf[0].toNat + s.buf[1].toNat + s.buf[2].toNat + s.buf[3].toNat) % 256 →
      exec .check s = .next { s with ph := 0x12#5 }) ∧
    (s.buf[4].toNat ≠
        (s.buf[0].toNat + s.buf[1].toNat + s.buf[2].toNat + s.buf[3].toNat) % 256 →
      exec .check s = .next { s with res := 4#3, ph := 0x13#5 })

/-- R132: OUT, OUT_VALID, RES and PH in one step; COMMIT is reached from a CHECK that passed, only. -/
def Obligations.CommitPublishesTheBuffer : Prop :=
  (∀ s : State, exec .commit s =
    .next { s with out := s.buf, outValid := 1#1, res := 1#3, ph := 0x13#5 }) ∧
  (∀ (i : Instr) (s t : State), exec i s = .next t → s.ph ≠ 0x12#5 → t.ph = 0x12#5 →
    i = .check ∧ s.buf[4] = s.buf[0] + s.buf[1] + s.buf[2] + s.buf[3])

/-- R101: `PinSet(ORIG)`, then IDLE; RES and the pin's direction are left alone. RESTORE is reached from COMMIT
and from the five micro-operations that can fail, only; and IDLE from RESTORE only. -/
def Obligations.RestoreDrivesTheSavedLevel : Prop :=
  (∀ s : State, exec .restore s =
    .next { s with ph := 0x00#5, trace := s.trace ++ [.pinSet s.orig] }) ∧
  (∀ (i : Instr) (s t : State), exec i s = .next t →
    (s.ph ≠ 0x13#5 → t.ph = 0x13#5 → i ∈ [.commit, .ack1, .ack2, .ack3, .slice, .check]) ∧
    (s.ph ≠ 0x00#5 → t.ph = 0x00#5 → i = .restore))

/-! ### The host -/

/-- R140: the micro-operation IDLE changes nothing, and a step leaves IDLE only as a host's write of a byte
with bit 0 set to CTRL. -/
def Obligations.IdleIsLeftOnlyByStart : Prop :=
  (∀ s : State, exec .idle s = .next s) ∧
  (∀ s t : State, s.ph = 0x00#5 → step s = .next t → t.ph ≠ 0x00#5 →
    ∃ v : Byte, s.nextTurn = .regWrite 0#3 v ∧ v.getLsbD 0 = true ∧ t.ph = 0x01#5)

/-- R141: START in IDLE writes VAR, RES, CNT, IDX and PH and nothing else. -/
def Obligations.StartBeginsARead : Prop :=
  ∀ (s : State) (variant : Nat) (reserved : BitVec 6), s.ph = 0x00#5 →
    exec (.start variant reserved) s = .next { s with
      var := BitVec.ofNat 1 variant, res := 0#3, cnt := 0, idx := 0#7, ph := 0x01#5 }

/-- R65, R141: a host's write of `xxxxxxv1` to CTRL in IDLE starts a read with VAR = v, whatever the reserved
bits. The schedule and the host log are the model's own: log 4, log 5. -/
def Obligations.HostStartWriteStartsARead : Prop :=
  ∀ (s : State) (byte : Byte) (rest : List Turn),
    s.ph = 0x00#5 → s.schedule = .regWrite 0#3 byte :: rest → byte.getLsbD 0 = true →
    step s = .next { s with
      var := BitVec.ofBool (byte.getLsbD 1), res := 0#3, cnt := 0, idx := 0#7, ph := 0x01#5
      schedule := rest, hostLog := s.hostLog ++ [.wrote 0#3 byte] }

/-- R142: START while BUSY = 1 changes nothing; so does a write to CTRL with bit 0 clear, in every phase. That
START while BUSY = 1 is ignored and not refused is the spec's decision D9, DEDUCED here: log 12. The schedule and
the host log are the model's own: log 4, log 5. -/
def Obligations.IgnoredCtrlWrites : Prop :=
  (∀ (s : State) (variant : Nat) (reserved : BitVec 6), s.ph ≠ 0x00#5 →
    exec (.start variant reserved) s = .next s) ∧
  (∀ (s : State) (byte : Byte) (rest : List Turn), s.schedule = .regWrite 0#3 byte :: rest →
    s.ph ≠ 0x00#5 ∨ byte.getLsbD 0 = false →
    step s = .next { s with schedule := rest, hostLog := s.hostLog ++ [.wrote 0#3 byte] })

/-- R144: a write to register 1 to 7 is ignored in every phase. The schedule and the host log are the model's
own: log 4, log 5. -/
def Obligations.WritesToOtherRegistersAreIgnored : Prop :=
  ∀ (s : State) (n : HostReg) (v : Byte) (rest : List Turn),
    s.schedule = .regWrite n v :: rest → n ≠ 0#3 →
    step s = .next { s with schedule := rest, hostLog := s.hostLog ++ [.wrote n v] }

/-- R143, R44: what each register reads, and that a read changes nothing. The schedule and the host log are
the model's own: log 4, log 5. -/
def Obligations.HostReads : Prop :=
  ∀ s : State,
    s.regRead 0#3 = 0b000000#6 ++ s.var ++ 0b0#1 ∧
    s.regRead 1#3 = 0b0#1 ++ s.res ++ 0b0#1 ++ s.crit ++ s.outValid ++
      (if s.ph = 0x00#5 then 0#1 else 1#1) ∧
    (∀ k : Fin 5, s.regRead (BitVec.ofNat 3 (k.val + 2)) = s.out[k]) ∧
    s.regRead 7#3 = 0x00#8 ∧
    ∀ (n : HostReg) (rest : List Turn), s.schedule = .regRead n :: rest →
      step s = .next { s with schedule := rest, hostLog := s.hostLog ++ [.read n (s.regRead n)] }

/-- The values of STATUS a host can see: no other is reachable (derived from R36 and R143; the table of the
test vectors lists them). -/
def Obligations.StatusValues : Prop :=
  ∀ s : State, s.Inv → s.regRead 1#3 ∈
    [0x00#8, 0x01#8, 0x03#8, 0x05#8, 0x07#8, 0x13#8, 0x21#8, 0x23#8, 0x31#8, 0x33#8, 0x41#8, 0x43#8,
      0x12#8, 0x20#8, 0x22#8, 0x30#8, 0x32#8, 0x40#8, 0x42#8]

/-! ### Encoding and stepping -/

/-- Decoding the encoding of a well-formed instruction gives it back, every operand at every value (R61,
R65). -/
def Obligations.DecodeOfEncode : Prop :=
  ∀ i : Instr, i.wf = true → decode (encode i) = .ok i

/-- Every word has one meaning: what decodes to an instruction is that instruction's word, and the instruction
is well formed (R61, R65). -/
def Obligations.EncodeOfDecode : Prop :=
  ∀ (w : CodeWord) (i : Instr), decode w = .ok i → i.wf = true ∧ encode i = w

/-- Words written out from R61 and R65. -/
def Obligations.SpecWordsDecode : Prop :=
  decode (.phase 0b00000#5) = .ok .idle ∧
  decode (.phase 0b00010#5) = .ok .guardSet ∧
  decode (.phase 0b00110#5) = .ok .hsHold ∧
  decode (.phase 0b01010#5) = .ok .ack2 ∧
  decode (.phase 0b01110#5) = .ok .rxHigh ∧
  decode (.phase 0b10000#5) = .ok .slice ∧
  decode (.phase 0b10010#5) = .ok .commit ∧
  decode (.phase 0b10011#5) = .ok .restore ∧
  decode (.phase 0b10100#5) = .error (.reservedPhase 0x14#5) ∧
  decode (.ctrl 0b00000011#8) = .ok (.start 1 0) ∧
  decode (.ctrl 0b10110101#8) = .ok (.start 0 0b101101#6) ∧
  decode (.ctrl 0b11111110#8) = .error (.noCommand 0xFE#8)

/-- R62: when PH decodes to an instruction, the sequencer's step is that instruction; when the host writes a
CTRL byte that decodes to one, the host's step is that instruction. The turn and the host log are the model's
own: log 4, log 5. -/
def Obligations.StepRunsTheDecodedInstruction : Prop :=
  ∀ (s : State) (i : Instr),
    (s.nextTurn = .sequencer → decode (.phase s.ph) = .ok i →
      step s = exec i { s with schedule := s.schedule.tail }) ∧
    (∀ byte : Byte, s.nextTurn = .regWrite 0#3 byte → decode (.ctrl byte) = .ok i →
      step s = exec i { s with
        schedule := s.schedule.tail, hostLog := s.hostLog ++ [.wrote 0#3 byte] })

/-- R67: a reserved code has no meaning and no step of the sequencer; BUSY reads 1 and the host's accesses
leave it so; and no step reaches a reserved code from a legal one. -/
def Obligations.ReservedPhaseIsStuck : Prop :=
  (∀ c : PhaseCode, 20 ≤ c.toNat → decode (.phase c) = .error (.reservedPhase c)) ∧
  (∀ s : State, 20 ≤ s.ph.toNat →
    (s.nextTurn = .sequencer → step s = .fault (.stuckPhase s.ph)) ∧
    s.busy = 1#1 ∧
    ∀ t, step s = .next t → t.ph = s.ph) ∧
  (∀ s t : State, s.ph.toNat < 20 → step s = .next t → t.ph.toNat < 20)

/-! ### Whole-machine rules -/

/-- R63: the only transfers of PH. -/
def Obligations.SuccessorsFollowTheTable : Prop :=
  ∀ (s t : State) (i : Instr), decode (.phase s.ph) = .ok i → exec i s = .next t →
    (s.ph, t.ph) ∈
      ([(0x00#5, 0x00#5), (0x01#5, 0x04#5), (0x01#5, 0x02#5), (0x02#5, 0x03#5), (0x03#5, 0x04#5),
        (0x04#5, 0x05#5), (0x05#5, 0x06#5), (0x06#5, 0x07#5), (0x07#5, 0x08#5), (0x08#5, 0x09#5),
        (0x09#5, 0x09#5), (0x09#5, 0x0A#5), (0x09#5, 0x13#5), (0x0A#5, 0x0A#5), (0x0A#5, 0x0B#5),
        (0x0A#5, 0x13#5), (0x0B#5, 0x0B#5), (0x0B#5, 0x0C#5), (0x0B#5, 0x13#5), (0x0C#5, 0x0D#5),
        (0x0D#5, 0x0D#5), (0x0D#5, 0x0E#5), (0x0E#5, 0x0E#5), (0x0E#5, 0x0D#5), (0x0E#5, 0x0F#5),
        (0x0F#5, 0x10#5), (0x10#5, 0x13#5), (0x10#5, 0x11#5), (0x11#5, 0x12#5), (0x11#5, 0x13#5),
        (0x12#5, 0x13#5), (0x13#5, 0x00#5)] : List (PhaseCode × PhaseCode))

/-- R61, column "Port operation": what each instruction appends to the event trace, at most one event
(R62). -/
def Obligations.PortOperationOfEachInstruction : Prop :=
  ∀ (i : Instr) (s t : State), exec i s = .next t →
    t.trace = s.trace ++ (match i with
      | .idle | .slice | .check | .commit | .start _ _ => []
      | .guardGet | .ack1 | .ack2 | .ack3 | .rxLow | .rxHigh => [.pinGet s.pinAnswer]
      | .guardSet | .hsHigh => [.pinSet 1#1]
      | .guardSettle => [.delay .settle]
      | .hsCfgOut => [.pinConfigure .output]
      | .hsLow => [.pinSet 0#1]
      | .hsHold => [.delay (.startLow s.var)]
      | .hsCfgIn => [.pinConfigure .input]
      | .critEnter => [.critEnter]
      | .critExit => [.critExit]
      | .restore => [.pinSet s.orig])

/-- R20, column "Written by": a register changes only in the instructions that write it, RAW only in the slot
IDX names, and nothing changes the parameters, the turns to come, the host log or the count of resets. -/
def Obligations.RegistersHaveTheirWriters : Prop :=
  ∀ (i : Instr) (s t : State), exec i s = .next t →
    (t.idx ≠ s.idx → (∃ v r, i = .start v r) ∨ i ∈ [.critEnter, .rxLow, .rxHigh]) ∧
    (t.cnt ≠ s.cnt → (∃ v r, i = .start v r) ∨ i ∈ [.ack1, .ack2, .ack3, .rxLow, .rxHigh]) ∧
    (t.raw ≠ s.raw → i ∈ [.rxLow, .rxHigh]) ∧
    (∀ j : Fin 80, j.val ≠ s.idx.toNat → t.raw[j] = s.raw[j]) ∧
    (t.buf ≠ s.buf → i = .slice) ∧
    (t.out ≠ s.out → i = .commit) ∧
    (t.outValid ≠ s.outValid → i = .commit) ∧
    (t.orig ≠ s.orig → i = .guardGet) ∧
    (t.var ≠ s.var → ∃ v r, i = .start v r) ∧
    (t.crit ≠ s.crit → i ∈ [.critEnter, .critExit]) ∧
    t.params = s.params ∧ t.schedule = s.schedule ∧ t.hostLog = s.hostLog ∧ t.resets = s.resets

/-- R28, R170: each value of RES has its writers: START writes NONE, an acknowledgement wait NO_SIGNAL, SLICE
NO_DATA, CHECK CHECKSUM, COMMIT OK. -/
def Obligations.ResultCodeWriters : Prop :=
  ∀ (i : Instr) (s t : State), exec i s = .next t → t.res ≠ s.res →
    (∃ v r, i = .start v r ∧ t.res = 0#3) ∨
    (i ∈ [.ack1, .ack2, .ack3] ∧ t.res = 2#3) ∨
    (i = .slice ∧ t.res = 3#3) ∨ (i = .check ∧ t.res = 4#3) ∨ (i = .commit ∧ t.res = 1#3)

/-- R173: `fail` is precise: the failing micro-operation writes RES, PH and, for a wait, CNT <- 0, and nothing
else but the record of its pin read. -/
def Obligations.FailIsPrecise : Prop :=
  ∀ (i : Instr) (s t : State), i ∈ [.ack1, .ack2, .ack3, .slice, .check] →
    exec i s = .next t → s.ph ≠ 0x13#5 → t.ph = 0x13#5 →
    (i ∈ [.ack1, .ack2, .ack3] →
      t = { s.afterPinGet with cnt := 0, res := 2#3, ph := 0x13#5 }) ∧
    (i = .slice → t = { s with res := 3#3, ph := 0x13#5 }) ∧
    (i = .check → t = { s with res := 4#3, ph := 0x13#5 })

/-- R30, R95, R150: inside the block VAR selects the starting-low duration and nothing else: every instruction
but HS_HOLD does the same whatever VAR is, and carries it along (START overwrites it). -/
def Obligations.VariantOnlySelectsTheHold : Prop :=
  ∀ (i : Instr) (s t : State) (v : Flag), i ≠ .hsHold → exec i s = .next t →
    ((∃ w r, i = .start w r) ∧ s.ph = 0x00#5 → exec i { s with var := v } = .next t) ∧
    (¬ ((∃ w r, i = .start w r) ∧ s.ph = 0x00#5) →
      exec i { s with var := v } = .next { t with var := v })

/-- R27: no step but a reset clears OUT_VALID, and only the sequencer's COMMIT sets it. -/
def Obligations.OutValidIsSetByCommitForEver : Prop :=
  ∀ s t : State, step s = .next t → s.nextTurn ≠ .reset →
    t.outValid = if s.nextTurn = .sequencer ∧ s.ph = 0x12#5 then 1#1 else s.outValid

/-- R133: the only step that changes OUT is COMMIT, and what it writes satisfies the checksum. Premise: the
invariant R36 (stated as kept in `InvariantIsKept`). -/
def Obligations.OnlyValidatedBytesReachTheHost : Prop :=
  ∀ s t : State, s.Inv → step s = .next t → s.nextTurn ≠ .reset →
    (t.out = s.out ∧ t.outValid = s.outValid) ∨
    (s.ph = 0x12#5 ∧ t.out = s.buf ∧ t.outValid = 1#1 ∧ t.res = 1#3 ∧
      t.out[4] = t.out[0] + t.out[1] + t.out[2] + t.out[3])

/-- R133, R173, R177: however far a read has gone, unless it has ended with OK the host still reads the bytes
of before. -/
def Obligations.FailedReadKeepsTheLastGoodBytes : Prop :=
  ∀ (s t : State) (k : Nat), s.Inv → s.HostQuiet → s.ph = 0x01#5 → runSteps k s = .next t →
    t.res ≠ 1#3 → t.out = s.out ∧ t.outValid = s.outValid

/-- R36: the invariants hold again after every step, of the sequencer, the host or a reset. -/
def Obligations.InvariantIsKept : Prop :=
  ∀ s t : State, s.Inv → step s = .next t → t.Inv

/-- R36, R51, R101: the invariants hold at reset. -/
def Obligations.InvariantsHoldAtReset : Prop :=
  State.reset.Inv ∧ State.reset.GuardBalanced ∧ State.reset.LineRestored

/-- R63, R177: in a state with the invariant of R36 nothing is stuck, by an error or otherwise: every phase has a
successor, so every step answers a next state, but for a reset while BUSY = 1, which the model refuses (log 7).
That GUARD_SETTLE and HS_HOLD go on rests on the delay port's return, which R50 assumes and the model builds in
(DEDUCED, unsafe: log 13); were a delay not to return, the block would be stuck in those two phases (U14). -/
def Obligations.NothingIsStuckUnderTheInvariant : Prop :=
  ∀ s : State, s.Inv →
    (s.nextTurn ≠ .reset ∨ s.ph = 0x00#5 → ∃ t, step s = .next t) ∧
    (s.nextTurn = .reset → s.ph ≠ 0x00#5 → step s = .refused .resetWhileBusy)

/-- R51: the guard port stays balanced: every `CritEnter` but an open one has its `CritExit`. -/
def Obligations.GuardPortStaysBalanced : Prop :=
  ∀ s t : State, s.Inv → s.GuardBalanced → step s = .next t → t.GuardBalanced

/-- R101, R102: whenever the block is in IDLE after a read, its last port operation was `PinSet(ORIG)`. -/
def Obligations.LineIsRestoredOnEveryExit : Prop :=
  ∀ s t : State, s.LineRestored → step s = .next t → t.LineRestored

/-- R83: every count fits in CW bits, the one a tick is about to make included, and CNT never reaches
TIMEOUT. -/
def Obligations.CountsFitTheCounter : Prop :=
  ∀ s t : State, s.Inv → step s = .next t →
    t.cnt < t.params.timeout ∧ t.cnt + 1 < 2 ^ t.params.cw ∧
    (∀ j : Fin 80, t.raw[j] < 2 ^ t.params.cw)

/-- R195: every read ends: from GUARD_GET, with no host access, IDLE is reached within 14 + 83 * TIMEOUT steps
and 1 + 83 * TIMEOUT pin reads, with a result. R195 says so "provided the delay port returns", which the model
builds in: a delay is one event after which the sequencer goes on (DEDUCED, unsafe: log 13). The counter of pin
reads is the model's own: log 3. -/
def Obligations.EveryReadEnds : Prop :=
  ∀ s : State, s.Inv → s.HostQuiet → s.ph = 0x01#5 →
    ∃ (k : Nat) (t : State), k ≤ 14 + 83 * s.params.timeout ∧ runSteps k s = .next t ∧
      t.ph = 0x00#5 ∧ t.res ≠ 0#3 ∧ t.draws ≤ s.draws + (1 + 83 * s.params.timeout)

/-- R115: a line that is low for L_i samples, shows one sample of 1, then H_i more, then one sample of 0, for
i = 0..39, is recorded as RAW[2i] = L_i and RAW[2i+1] = H_i, in the sum of L_i + H_i + 2 samples. The list of
answers is the model's own: log 3. -/
def Obligations.ReceptionRecordsTheFrame : Prop :=
  ∀ (s : State) (low high : Fin 40 → Nat) (rest : List Level),
    s.HostQuiet → s.ph = 0x0C#5 → s.cnt = 0 → 1 ≤ s.params.timeout →
    (∀ i, low i < s.params.timeout ∧ high i < s.params.timeout) →
    s.answers = (List.finRange 40).flatMap (fun i =>
      List.replicate (low i) 0#1 ++ 1#1 :: (List.replicate (high i) 1#1 ++ [0#1])) ++ rest →
    ∃ t, runSteps (1 + ∑ i, (low i + high i + 2)) s = .next t ∧
      t.ph = 0x0F#5 ∧ t.answers = rest ∧ t.idx = 79#7 ∧ t.cnt = 0 ∧
      (∀ i : Fin 40, t.raw[2 * i.val] = low i ∧ t.raw[2 * i.val + 1] = high i) ∧
      t.buf = s.buf ∧ t.out = s.out ∧ t.outValid = s.outValid ∧ t.res = s.res ∧
      t.orig = s.orig ∧ t.var = s.var ∧ t.crit = 1#1 ∧ t.params = s.params

/-- R115, R120 to R122, R130 to R133: a frame received from CRIT_ENTER on ends in IDLE with its bytes in OUT and
RES = OK if its fifth byte is the sum of the others, and otherwise with RES = CHECKSUM and OUT as it was. The
list of answers is the model's own: log 3. -/
def Obligations.FrameIsDeliveredOrRejected : Prop :=
  ∀ (s : State) (low high : Fin 40 → Nat) (rest : List Level) (b : Vector Byte 5),
    s.HostQuiet → s.ph = 0x0C#5 → s.cnt = 0 → 1 ≤ s.params.timeout →
    (∀ i, low i < s.params.timeout ∧ high i < s.params.timeout) →
    s.answers = (List.finRange 40).flatMap (fun i =>
      List.replicate (low i) 0#1 ++ 1#1 :: (List.replicate (high i) 1#1 ++ [0#1])) ++ rest →
    (∀ (k : Fin 5) (j : Fin 8), b[k].getLsbD (7 - j.val) =
      decide (high ⟨8 * k.val + j.val, by omega⟩ > low ⟨8 * k.val + j.val, by omega⟩)) →
    (b[4] = b[0] + b[1] + b[2] + b[3] →
      ∃ t, runSteps (1 + ∑ i, (low i + high i + 2) + 5) s = .next t ∧ t.ph = 0x00#5 ∧
        t.res = 1#3 ∧ t.outValid = 1#1 ∧ t.out = b ∧ t.crit = 0#1) ∧
    (b[4] ≠ b[0] + b[1] + b[2] + b[3] →
      ∃ t, runSteps (1 + ∑ i, (low i + high i + 2) + 4) s = .next t ∧ t.ph = 0x00#5 ∧
        t.res = 4#3 ∧ t.outValid = s.outValid ∧ t.out = s.out ∧ t.crit = 0#1)

/-! ### Reset -/

/-- R35: the registers whose value reset fixes, and that it performs no port operation. -/
def Obligations.StateAfterReset : Prop :=
  State.reset.ph = 0x00#5 ∧ State.reset.idx = 0#7 ∧ State.reset.cnt = 0 ∧ State.reset.res = 0#3 ∧
  State.reset.outValid = 0#1 ∧ State.reset.crit = 0#1 ∧ State.reset.trace = []

/-- R190, R192: a reset with BUSY = 0 gives the values of R35 and no event and keeps the parameters; with
BUSY = 1 it is refused. That a reset may come in mid-run at all, as the start of a new one, is the model's
choice: log 7. -/
def Obligations.ResetTurn : Prop :=
  ∀ s : State, s.nextTurn = .reset →
    (s.ph = 0x00#5 → ∃ t, step s = .next t ∧
      t.ph = 0x00#5 ∧ t.idx = 0#7 ∧ t.cnt = 0 ∧ t.res = 0#3 ∧ t.outValid = 0#1 ∧ t.crit = 0#1 ∧
      t.trace = [] ∧ t.params = s.params ∧ t.answers = s.answers ∧ t.schedule = s.schedule.tail) ∧
    (s.ph ≠ 0x00#5 → step s = .refused .resetWhileBusy)

/-! ### The surrounding software -/

/-- R151: the integer variant, VAR = 0. -/
def Obligations.IntegerVariantDecodes : Prop :=
  ∀ b : Vector Byte 5,
    (extractData 0#1 b).humidity = b[0].toNat * 10 ∧
    (extractData 0#1 b).temperature = b[2].toNat * 10

/-- R152: the fixed-point variant, VAR = 1: humidity the 16-bit number B0 ++ B1, temperature the low 15 bits of
B2 ++ B3, negated when bit 15 is set. -/
def Obligations.FixedPointVariantDecodes : Prop :=
  ∀ b : Vector Byte 5,
    (extractData 1#1 b).humidity = (b[0] ++ b[1]).toNat ∧
    (extractData 1#1 b).temperature =
      (if (b[2] ++ b[3]).getLsbD 15 then -1 else 1) * (((b[2] ++ b[3]).extractLsb' 0 15).toNat : Int)

/-- R155, R156, R162, R175: the constructor leaves the block as it was; before any successful read an accessor
reports Uninitialized; after one it returns the decoded value; a failed read leaves the stored values and the flag
as they were. -/
def Obligations.DeviceKeepsTheLastSuccess : Prop :=
  (∀ (s : State) (v : Flag), (Device.new s v).block = s ∧
    (Device.new s v).temperature = .error .uninitialized ∧
    (Device.new s v).humidity = .error .uninitialized) ∧
  (∀ (d : Device) (b : Vector Byte 5),
    (d.takeResult (.bytes b)).2.temperature = .value (extractData d.variant b).temperature ∧
    (d.takeResult (.bytes b)).2.humidity = .value (extractData d.variant b).humidity) ∧
  (∀ (d : Device) (k : ErrorKind), d.takeResult (.error k) = (.error k.toCallError, d))

/-- R160: after a call that read and succeeded, a call within the interval returns the same values and touches
nothing, and one at or after the interval issues a read; a call whose read failed leaves cache and timestamp alone;
a call that issues no read returns what is cached and leaves all as it was. (That `within` is `<` is the spec's own
choice, and a time in milliseconds the model's: log 17. The gaps are the model's own: log 19.) -/
def Obligations.ManagedDeviceCachesWithinTheInterval : Prop :=
  (∀ (m m' : ManagedDevice) (now later : Nat) (gaps rest : List Nat) (x : Measurement),
    m.mustRead now = true → m.measurements now gaps = .next (.returned (.value x, m') rest) →
    (later - now < m.policy.interval → ∀ gaps' : List Nat,
      m'.measurements later gaps' = .next (.returned (.value x, m') gaps')) ∧
    (m.policy.interval ≤ later - now → m'.mustRead later = true)) ∧
  (∀ (m m' : ManagedDevice) (now : Nat) (gaps rest : List Nat) (e : CallError),
    m.mustRead now = true → m.measurements now gaps = .next (.returned (.error e, m') rest) →
    m'.device.last = m.device.last ∧ m'.lastSuccess = m.lastSuccess ∧ m'.policy = m.policy) ∧
  (∀ (m : ManagedDevice) (now : Nat) (gaps : List Nat), m.mustRead now = false →
    m.measurements now gaps = .next (.returned (m.device.access id, m) gaps))

/-- R145 step 4: in IDLE the host's look at the registers gives the validated bytes after OK and the error after
a failure. The last clause, that RES = NONE gives no result, is the model's choice, since step 4 does not speak of
NONE: DESIGN CHOICE, log 17. -/
def Obligations.HostLearnsTheResult : Prop :=
  ∀ s : State, s.ph = 0x00#5 →
    (s.res = 1#3 → s.readResult = some (.bytes s.out)) ∧
    (s.res = 2#3 → s.readResult = some (.error .noSignal)) ∧
    (s.res = 3#3 → s.readResult = some (.error .noData)) ∧
    (s.res = 4#3 → s.readResult = some (.error .checksum)) ∧
    (s.res = 0#3 → s.readResult = none)

/-- R145: whenever the protocol returns, the read it started with variant v is over, the result is what RES and
DATA say of it, it has written CTRL exactly once, with `0b000000 ++ v ++ 0b1`, and, if it began in IDLE, an error
means that the last good bytes are as before. The gaps and the host log are the model's own: log 19, log 5. -/
def Obligations.ReadProtocolReturnsTheResult : Prop :=
  ∀ (s t : State) (v : Flag) (gaps rest : List Nat) (r : ReadResult), s.Inv →
    performRead v s gaps = .next (.returned (r, t) rest) →
    t.Inv ∧ t.ph = 0x00#5 ∧ t.var = v ∧ t.readResult = some r ∧
    (∃ made : List HostEvent, t.hostLog = s.hostLog ++ made ∧
      made.filter (fun | .wrote _ _ => true | .read _ _ => false) =
        [.wrote 0#3 (0b000000#6 ++ v ++ 0b1#1)]) ∧
    (∀ k : ErrorKind, s.ph = 0x00#5 → r = .error k → t.out = s.out ∧ t.outValid = s.outValid)

/-- R145, "step 3 always ends, since every read ends" (R195): from IDLE the protocol returns, whatever the
environment answers, once the sequencer has made 14 + 83 * TIMEOUT steps between the START and the STATUS read
after it, and there are gaps for the five reads of DATA. It rests on the delay port's return (log 13); the gaps are
the model's own: log 19. -/
def Obligations.ReadProtocolEnds : Prop :=
  ∀ (s : State) (v : Flag) (i j k : Nat) (gaps : List Nat), s.Inv → s.ph = 0x00#5 →
    14 + 83 * s.params.timeout ≤ k → 5 ≤ gaps.length →
    ∃ (r : ReadResult) (t : State) (rest : List Nat),
      performRead v s (i :: j :: k :: gaps) = .next (.returned (r, t) rest)

/-- R146, R154, R155: `Device.Measurements()` is one read with the Device's variant on the Device's block: one
START, `0b000000 ++ variant ++ 0b1`, is written and nothing else, and the read is over; on OK the decoded bytes of
that read are returned and stored, on an error it is returned and nothing is stored. The gaps and the host log are
the model's own: log 19, log 5. -/
def Obligations.MeasurementsIsOneFullRead : Prop :=
  ∀ (d d' : Device) (gaps rest : List Nat) (reply : Reply Measurement), d.block.Inv →
    d.measurements gaps = .next (.returned (reply, d') rest) →
    d'.variant = d.variant ∧ d'.block.ph = 0x00#5 ∧ d'.block.var = d.variant ∧
    (∃ made : List HostEvent, d'.block.hostLog = d.block.hostLog ++ made ∧
      made.filter (fun | .wrote _ _ => true | .read _ _ => false) =
        [.wrote 0#3 (0b000000#6 ++ d.variant ++ 0b1#1)]) ∧
    ((d'.block.res = 1#3 ∧ reply = .value (extractData d.variant d'.block.out) ∧
        d'.last = some (extractData d.variant d'.block.out)) ∨
      ∃ k : ErrorKind, d'.block.readResult = some (.error k) ∧ reply = .error k.toCallError ∧
        d'.last = d.last)

/-- R146, R161: `ReadMeasurements()` reads whatever the interval and the flag say: one START with the Device's
variant is written and nothing else, and the read is over. It updates cache and timestamp on success, and returns
only the error, if any. The gaps and the host log are the model's own: log 19, log 5. -/
def Obligations.ReadMeasurementsForcesARead : Prop :=
  ∀ (m m' : ManagedDevice) (now : Nat) (gaps rest : List Nat) (reply : Reply Unit),
    m.device.block.Inv → m.readMeasurements now gaps = .next (.returned (reply, m') rest) →
    m'.policy = m.policy ∧ m'.device.variant = m.device.variant ∧
    m'.device.block.ph = 0x00#5 ∧ m'.device.block.var = m.device.variant ∧
    (∃ made : List HostEvent, m'.device.block.hostLog = m.device.block.hostLog ++ made ∧
      made.filter (fun | .wrote _ _ => true | .read _ _ => false) =
        [.wrote 0#3 (0b000000#6 ++ m.device.variant ++ 0b1#1)]) ∧
    ((m'.device.block.res = 1#3 ∧ reply = .value () ∧ m'.lastSuccess = some now ∧
        m'.device.last = some (extractData m.device.variant m'.device.block.out)) ∨
      ∃ k : ErrorKind, m'.device.block.readResult = some (.error k) ∧ reply = .error k.toCallError ∧
        m'.lastSuccess = m.lastSuccess ∧ m'.device.last = m.device.last)
end

