-- ==== Sys2Proof/Laws/Decode.lean ====
section
/-! SUPPORT. What the decoder of phase codes can answer, for proofs to cite in place of unfolding it. -/

namespace Sys2Proof

/-- A phase code that decodes is the code of what it decodes to (R61), so it is none of the reserved ones and
the instruction is not START. -/
theorem decodePhase_ok {c : PhaseCode} {i : Instr} (h : decodePhase c = .ok i) : encode i = .phase c := by
  have key : ∀ n : Fin 32, ∀ i, decodePhase (BitVec.ofFin n) = .ok i →
      encode i = .phase (BitVec.ofFin n) := by
    intro n
    fin_cases n <;> intro i h <;> first | (cases h; rfl) | (cases h)
  exact key c.toFin i h

/-- The codes below 0x14 all decode (R61). -/
theorem decodePhase_legal {c : PhaseCode} (h : c.toNat < 20) : ∃ i, decodePhase c = .ok i := by
  have key : ∀ n : Fin 32, n.val < 20 → ∃ i, decodePhase (BitVec.ofFin n) = .ok i := by
    intro n
    fin_cases n <;> intro h <;> first | exact ⟨_, rfl⟩ | (exact absurd h (by decide))
  exact key c.toFin h

end Sys2Proof
end

