-- ==== Sys2Proof/Laws/State.lean ====
section
/-! SUPPORT. One lemma per field per update: what each writer of Machine/Ops.lean does to each field, so that
no proof unfolds a record update. -/

namespace Sys2Proof.Machine

variable (s : State)

/-! `setPh`. -/

@[simp] theorem State.setPh_ph (c : PhaseCode) : (s.setPh c).ph = c := rfl
@[simp] theorem State.setPh_idx (c : PhaseCode) : (s.setPh c).idx = s.idx := rfl
@[simp] theorem State.setPh_cnt (c : PhaseCode) : (s.setPh c).cnt = s.cnt := rfl
@[simp] theorem State.setPh_raw (c : PhaseCode) : (s.setPh c).raw = s.raw := rfl
@[simp] theorem State.setPh_buf (c : PhaseCode) : (s.setPh c).buf = s.buf := rfl
@[simp] theorem State.setPh_out (c : PhaseCode) : (s.setPh c).out = s.out := rfl
@[simp] theorem State.setPh_outValid (c : PhaseCode) : (s.setPh c).outValid = s.outValid := rfl
@[simp] theorem State.setPh_res (c : PhaseCode) : (s.setPh c).res = s.res := rfl
@[simp] theorem State.setPh_orig (c : PhaseCode) : (s.setPh c).orig = s.orig := rfl
@[simp] theorem State.setPh_var (c : PhaseCode) : (s.setPh c).var = s.var := rfl
@[simp] theorem State.setPh_crit (c : PhaseCode) : (s.setPh c).crit = s.crit := rfl
@[simp] theorem State.setPh_trace (c : PhaseCode) : (s.setPh c).trace = s.trace := rfl
@[simp] theorem State.setPh_hostLog (c : PhaseCode) : (s.setPh c).hostLog = s.hostLog := rfl
@[simp] theorem State.setPh_params (c : PhaseCode) : (s.setPh c).params = s.params := rfl
@[simp] theorem State.setPh_answers (c : PhaseCode) : (s.setPh c).answers = s.answers := rfl
@[simp] theorem State.setPh_draws (c : PhaseCode) : (s.setPh c).draws = s.draws := rfl
@[simp] theorem State.setPh_schedule (c : PhaseCode) : (s.setPh c).schedule = s.schedule := rfl
@[simp] theorem State.setPh_resets (c : PhaseCode) : (s.setPh c).resets = s.resets := rfl

/-! `setIdx`. -/

@[simp] theorem State.setIdx_ph (i : BitVec 7) : (s.setIdx i).ph = s.ph := rfl
@[simp] theorem State.setIdx_idx (i : BitVec 7) : (s.setIdx i).idx = i := rfl
@[simp] theorem State.setIdx_cnt (i : BitVec 7) : (s.setIdx i).cnt = s.cnt := rfl
@[simp] theorem State.setIdx_raw (i : BitVec 7) : (s.setIdx i).raw = s.raw := rfl
@[simp] theorem State.setIdx_buf (i : BitVec 7) : (s.setIdx i).buf = s.buf := rfl
@[simp] theorem State.setIdx_out (i : BitVec 7) : (s.setIdx i).out = s.out := rfl
@[simp] theorem State.setIdx_outValid (i : BitVec 7) : (s.setIdx i).outValid = s.outValid := rfl
@[simp] theorem State.setIdx_res (i : BitVec 7) : (s.setIdx i).res = s.res := rfl
@[simp] theorem State.setIdx_orig (i : BitVec 7) : (s.setIdx i).orig = s.orig := rfl
@[simp] theorem State.setIdx_var (i : BitVec 7) : (s.setIdx i).var = s.var := rfl
@[simp] theorem State.setIdx_crit (i : BitVec 7) : (s.setIdx i).crit = s.crit := rfl
@[simp] theorem State.setIdx_trace (i : BitVec 7) : (s.setIdx i).trace = s.trace := rfl
@[simp] theorem State.setIdx_hostLog (i : BitVec 7) : (s.setIdx i).hostLog = s.hostLog := rfl
@[simp] theorem State.setIdx_params (i : BitVec 7) : (s.setIdx i).params = s.params := rfl
@[simp] theorem State.setIdx_answers (i : BitVec 7) : (s.setIdx i).answers = s.answers := rfl
@[simp] theorem State.setIdx_draws (i : BitVec 7) : (s.setIdx i).draws = s.draws := rfl
@[simp] theorem State.setIdx_schedule (i : BitVec 7) : (s.setIdx i).schedule = s.schedule := rfl
@[simp] theorem State.setIdx_resets (i : BitVec 7) : (s.setIdx i).resets = s.resets := rfl

/-! `setCnt`. -/

@[simp] theorem State.setCnt_ph (n : Nat) : (s.setCnt n).ph = s.ph := rfl
@[simp] theorem State.setCnt_idx (n : Nat) : (s.setCnt n).idx = s.idx := rfl
@[simp] theorem State.setCnt_cnt (n : Nat) : (s.setCnt n).cnt = n := rfl
@[simp] theorem State.setCnt_raw (n : Nat) : (s.setCnt n).raw = s.raw := rfl
@[simp] theorem State.setCnt_buf (n : Nat) : (s.setCnt n).buf = s.buf := rfl
@[simp] theorem State.setCnt_out (n : Nat) : (s.setCnt n).out = s.out := rfl
@[simp] theorem State.setCnt_outValid (n : Nat) : (s.setCnt n).outValid = s.outValid := rfl
@[simp] theorem State.setCnt_res (n : Nat) : (s.setCnt n).res = s.res := rfl
@[simp] theorem State.setCnt_orig (n : Nat) : (s.setCnt n).orig = s.orig := rfl
@[simp] theorem State.setCnt_var (n : Nat) : (s.setCnt n).var = s.var := rfl
@[simp] theorem State.setCnt_crit (n : Nat) : (s.setCnt n).crit = s.crit := rfl
@[simp] theorem State.setCnt_trace (n : Nat) : (s.setCnt n).trace = s.trace := rfl
@[simp] theorem State.setCnt_hostLog (n : Nat) : (s.setCnt n).hostLog = s.hostLog := rfl
@[simp] theorem State.setCnt_params (n : Nat) : (s.setCnt n).params = s.params := rfl
@[simp] theorem State.setCnt_answers (n : Nat) : (s.setCnt n).answers = s.answers := rfl
@[simp] theorem State.setCnt_draws (n : Nat) : (s.setCnt n).draws = s.draws := rfl
@[simp] theorem State.setCnt_schedule (n : Nat) : (s.setCnt n).schedule = s.schedule := rfl
@[simp] theorem State.setCnt_resets (n : Nat) : (s.setCnt n).resets = s.resets := rfl

/-! `setSlot`. -/

@[simp] theorem State.setSlot_ph (r : Nat) : (s.setSlot r).ph = s.ph := rfl
@[simp] theorem State.setSlot_idx (r : Nat) : (s.setSlot r).idx = s.idx := rfl
@[simp] theorem State.setSlot_cnt (r : Nat) : (s.setSlot r).cnt = s.cnt := rfl
@[simp] theorem State.setSlot_raw (r : Nat) : (s.setSlot r).raw = s.raw.setIfInBounds s.idx.toNat r := rfl
@[simp] theorem State.setSlot_buf (r : Nat) : (s.setSlot r).buf = s.buf := rfl
@[simp] theorem State.setSlot_out (r : Nat) : (s.setSlot r).out = s.out := rfl
@[simp] theorem State.setSlot_outValid (r : Nat) : (s.setSlot r).outValid = s.outValid := rfl
@[simp] theorem State.setSlot_res (r : Nat) : (s.setSlot r).res = s.res := rfl
@[simp] theorem State.setSlot_orig (r : Nat) : (s.setSlot r).orig = s.orig := rfl
@[simp] theorem State.setSlot_var (r : Nat) : (s.setSlot r).var = s.var := rfl
@[simp] theorem State.setSlot_crit (r : Nat) : (s.setSlot r).crit = s.crit := rfl
@[simp] theorem State.setSlot_trace (r : Nat) : (s.setSlot r).trace = s.trace := rfl
@[simp] theorem State.setSlot_hostLog (r : Nat) : (s.setSlot r).hostLog = s.hostLog := rfl
@[simp] theorem State.setSlot_params (r : Nat) : (s.setSlot r).params = s.params := rfl
@[simp] theorem State.setSlot_answers (r : Nat) : (s.setSlot r).answers = s.answers := rfl
@[simp] theorem State.setSlot_draws (r : Nat) : (s.setSlot r).draws = s.draws := rfl
@[simp] theorem State.setSlot_schedule (r : Nat) : (s.setSlot r).schedule = s.schedule := rfl
@[simp] theorem State.setSlot_resets (r : Nat) : (s.setSlot r).resets = s.resets := rfl

/-! `setBuf`. -/

@[simp] theorem State.setBuf_ph (b : Vector Byte 5) : (s.setBuf b).ph = s.ph := rfl
@[simp] theorem State.setBuf_idx (b : Vector Byte 5) : (s.setBuf b).idx = s.idx := rfl
@[simp] theorem State.setBuf_cnt (b : Vector Byte 5) : (s.setBuf b).cnt = s.cnt := rfl
@[simp] theorem State.setBuf_raw (b : Vector Byte 5) : (s.setBuf b).raw = s.raw := rfl
@[simp] theorem State.setBuf_buf (b : Vector Byte 5) : (s.setBuf b).buf = b := rfl
@[simp] theorem State.setBuf_out (b : Vector Byte 5) : (s.setBuf b).out = s.out := rfl
@[simp] theorem State.setBuf_outValid (b : Vector Byte 5) : (s.setBuf b).outValid = s.outValid := rfl
@[simp] theorem State.setBuf_res (b : Vector Byte 5) : (s.setBuf b).res = s.res := rfl
@[simp] theorem State.setBuf_orig (b : Vector Byte 5) : (s.setBuf b).orig = s.orig := rfl
@[simp] theorem State.setBuf_var (b : Vector Byte 5) : (s.setBuf b).var = s.var := rfl
@[simp] theorem State.setBuf_crit (b : Vector Byte 5) : (s.setBuf b).crit = s.crit := rfl
@[simp] theorem State.setBuf_trace (b : Vector Byte 5) : (s.setBuf b).trace = s.trace := rfl
@[simp] theorem State.setBuf_hostLog (b : Vector Byte 5) : (s.setBuf b).hostLog = s.hostLog := rfl
@[simp] theorem State.setBuf_params (b : Vector Byte 5) : (s.setBuf b).params = s.params := rfl
@[simp] theorem State.setBuf_answers (b : Vector Byte 5) : (s.setBuf b).answers = s.answers := rfl
@[simp] theorem State.setBuf_draws (b : Vector Byte 5) : (s.setBuf b).draws = s.draws := rfl
@[simp] theorem State.setBuf_schedule (b : Vector Byte 5) : (s.setBuf b).schedule = s.schedule := rfl
@[simp] theorem State.setBuf_resets (b : Vector Byte 5) : (s.setBuf b).resets = s.resets := rfl

/-! `setOut`. -/

@[simp] theorem State.setOut_ph (b : Vector Byte 5) : (s.setOut b).ph = s.ph := rfl
@[simp] theorem State.setOut_idx (b : Vector Byte 5) : (s.setOut b).idx = s.idx := rfl
@[simp] theorem State.setOut_cnt (b : Vector Byte 5) : (s.setOut b).cnt = s.cnt := rfl
@[simp] theorem State.setOut_raw (b : Vector Byte 5) : (s.setOut b).raw = s.raw := rfl
@[simp] theorem State.setOut_buf (b : Vector Byte 5) : (s.setOut b).buf = s.buf := rfl
@[simp] theorem State.setOut_out (b : Vector Byte 5) : (s.setOut b).out = b := rfl
@[simp] theorem State.setOut_outValid (b : Vector Byte 5) : (s.setOut b).outValid = s.outValid := rfl
@[simp] theorem State.setOut_res (b : Vector Byte 5) : (s.setOut b).res = s.res := rfl
@[simp] theorem State.setOut_orig (b : Vector Byte 5) : (s.setOut b).orig = s.orig := rfl
@[simp] theorem State.setOut_var (b : Vector Byte 5) : (s.setOut b).var = s.var := rfl
@[simp] theorem State.setOut_crit (b : Vector Byte 5) : (s.setOut b).crit = s.crit := rfl
@[simp] theorem State.setOut_trace (b : Vector Byte 5) : (s.setOut b).trace = s.trace := rfl
@[simp] theorem State.setOut_hostLog (b : Vector Byte 5) : (s.setOut b).hostLog = s.hostLog := rfl
@[simp] theorem State.setOut_params (b : Vector Byte 5) : (s.setOut b).params = s.params := rfl
@[simp] theorem State.setOut_answers (b : Vector Byte 5) : (s.setOut b).answers = s.answers := rfl
@[simp] theorem State.setOut_draws (b : Vector Byte 5) : (s.setOut b).draws = s.draws := rfl
@[simp] theorem State.setOut_schedule (b : Vector Byte 5) : (s.setOut b).schedule = s.schedule := rfl
@[simp] theorem State.setOut_resets (b : Vector Byte 5) : (s.setOut b).resets = s.resets := rfl

/-! `setOutValid`. -/

@[simp] theorem State.setOutValid_ph (f : Flag) : (s.setOutValid f).ph = s.ph := rfl
@[simp] theorem State.setOutValid_idx (f : Flag) : (s.setOutValid f).idx = s.idx := rfl
@[simp] theorem State.setOutValid_cnt (f : Flag) : (s.setOutValid f).cnt = s.cnt := rfl
@[simp] theorem State.setOutValid_raw (f : Flag) : (s.setOutValid f).raw = s.raw := rfl
@[simp] theorem State.setOutValid_buf (f : Flag) : (s.setOutValid f).buf = s.buf := rfl
@[simp] theorem State.setOutValid_out (f : Flag) : (s.setOutValid f).out = s.out := rfl
@[simp] theorem State.setOutValid_outValid (f : Flag) : (s.setOutValid f).outValid = f := rfl
@[simp] theorem State.setOutValid_res (f : Flag) : (s.setOutValid f).res = s.res := rfl
@[simp] theorem State.setOutValid_orig (f : Flag) : (s.setOutValid f).orig = s.orig := rfl
@[simp] theorem State.setOutValid_var (f : Flag) : (s.setOutValid f).var = s.var := rfl
@[simp] theorem State.setOutValid_crit (f : Flag) : (s.setOutValid f).crit = s.crit := rfl
@[simp] theorem State.setOutValid_trace (f : Flag) : (s.setOutValid f).trace = s.trace := rfl
@[simp] theorem State.setOutValid_hostLog (f : Flag) : (s.setOutValid f).hostLog = s.hostLog := rfl
@[simp] theorem State.setOutValid_params (f : Flag) : (s.setOutValid f).params = s.params := rfl
@[simp] theorem State.setOutValid_answers (f : Flag) : (s.setOutValid f).answers = s.answers := rfl
@[simp] theorem State.setOutValid_draws (f : Flag) : (s.setOutValid f).draws = s.draws := rfl
@[simp] theorem State.setOutValid_schedule (f : Flag) : (s.setOutValid f).schedule = s.schedule := rfl
@[simp] theorem State.setOutValid_resets (f : Flag) : (s.setOutValid f).resets = s.resets := rfl

/-! `setRes`. -/

@[simp] theorem State.setRes_ph (c : ResCode) : (s.setRes c).ph = s.ph := rfl
@[simp] theorem State.setRes_idx (c : ResCode) : (s.setRes c).idx = s.idx := rfl
@[simp] theorem State.setRes_cnt (c : ResCode) : (s.setRes c).cnt = s.cnt := rfl
@[simp] theorem State.setRes_raw (c : ResCode) : (s.setRes c).raw = s.raw := rfl
@[simp] theorem State.setRes_buf (c : ResCode) : (s.setRes c).buf = s.buf := rfl
@[simp] theorem State.setRes_out (c : ResCode) : (s.setRes c).out = s.out := rfl
@[simp] theorem State.setRes_outValid (c : ResCode) : (s.setRes c).outValid = s.outValid := rfl
@[simp] theorem State.setRes_res (c : ResCode) : (s.setRes c).res = c := rfl
@[simp] theorem State.setRes_orig (c : ResCode) : (s.setRes c).orig = s.orig := rfl
@[simp] theorem State.setRes_var (c : ResCode) : (s.setRes c).var = s.var := rfl
@[simp] theorem State.setRes_crit (c : ResCode) : (s.setRes c).crit = s.crit := rfl
@[simp] theorem State.setRes_trace (c : ResCode) : (s.setRes c).trace = s.trace := rfl
@[simp] theorem State.setRes_hostLog (c : ResCode) : (s.setRes c).hostLog = s.hostLog := rfl
@[simp] theorem State.setRes_params (c : ResCode) : (s.setRes c).params = s.params := rfl
@[simp] theorem State.setRes_answers (c : ResCode) : (s.setRes c).answers = s.answers := rfl
@[simp] theorem State.setRes_draws (c : ResCode) : (s.setRes c).draws = s.draws := rfl
@[simp] theorem State.setRes_schedule (c : ResCode) : (s.setRes c).schedule = s.schedule := rfl
@[simp] theorem State.setRes_resets (c : ResCode) : (s.setRes c).resets = s.resets := rfl

/-! `setOrig`. -/

@[simp] theorem State.setOrig_ph (b : Flag) : (s.setOrig b).ph = s.ph := rfl
@[simp] theorem State.setOrig_idx (b : Flag) : (s.setOrig b).idx = s.idx := rfl
@[simp] theorem State.setOrig_cnt (b : Flag) : (s.setOrig b).cnt = s.cnt := rfl
@[simp] theorem State.setOrig_raw (b : Flag) : (s.setOrig b).raw = s.raw := rfl
@[simp] theorem State.setOrig_buf (b : Flag) : (s.setOrig b).buf = s.buf := rfl
@[simp] theorem State.setOrig_out (b : Flag) : (s.setOrig b).out = s.out := rfl
@[simp] theorem State.setOrig_outValid (b : Flag) : (s.setOrig b).outValid = s.outValid := rfl
@[simp] theorem State.setOrig_res (b : Flag) : (s.setOrig b).res = s.res := rfl
@[simp] theorem State.setOrig_orig (b : Flag) : (s.setOrig b).orig = b := rfl
@[simp] theorem State.setOrig_var (b : Flag) : (s.setOrig b).var = s.var := rfl
@[simp] theorem State.setOrig_crit (b : Flag) : (s.setOrig b).crit = s.crit := rfl
@[simp] theorem State.setOrig_trace (b : Flag) : (s.setOrig b).trace = s.trace := rfl
@[simp] theorem State.setOrig_hostLog (b : Flag) : (s.setOrig b).hostLog = s.hostLog := rfl
@[simp] theorem State.setOrig_params (b : Flag) : (s.setOrig b).params = s.params := rfl
@[simp] theorem State.setOrig_answers (b : Flag) : (s.setOrig b).answers = s.answers := rfl
@[simp] theorem State.setOrig_draws (b : Flag) : (s.setOrig b).draws = s.draws := rfl
@[simp] theorem State.setOrig_schedule (b : Flag) : (s.setOrig b).schedule = s.schedule := rfl
@[simp] theorem State.setOrig_resets (b : Flag) : (s.setOrig b).resets = s.resets := rfl

/-! `setVar`. -/

@[simp] theorem State.setVar_ph (v : Flag) : (s.setVar v).ph = s.ph := rfl
@[simp] theorem State.setVar_idx (v : Flag) : (s.setVar v).idx = s.idx := rfl
@[simp] theorem State.setVar_cnt (v : Flag) : (s.setVar v).cnt = s.cnt := rfl
@[simp] theorem State.setVar_raw (v : Flag) : (s.setVar v).raw = s.raw := rfl
@[simp] theorem State.setVar_buf (v : Flag) : (s.setVar v).buf = s.buf := rfl
@[simp] theorem State.setVar_out (v : Flag) : (s.setVar v).out = s.out := rfl
@[simp] theorem State.setVar_outValid (v : Flag) : (s.setVar v).outValid = s.outValid := rfl
@[simp] theorem State.setVar_res (v : Flag) : (s.setVar v).res = s.res := rfl
@[simp] theorem State.setVar_orig (v : Flag) : (s.setVar v).orig = s.orig := rfl
@[simp] theorem State.setVar_var (v : Flag) : (s.setVar v).var = v := rfl
@[simp] theorem State.setVar_crit (v : Flag) : (s.setVar v).crit = s.crit := rfl
@[simp] theorem State.setVar_trace (v : Flag) : (s.setVar v).trace = s.trace := rfl
@[simp] theorem State.setVar_hostLog (v : Flag) : (s.setVar v).hostLog = s.hostLog := rfl
@[simp] theorem State.setVar_params (v : Flag) : (s.setVar v).params = s.params := rfl
@[simp] theorem State.setVar_answers (v : Flag) : (s.setVar v).answers = s.answers := rfl
@[simp] theorem State.setVar_draws (v : Flag) : (s.setVar v).draws = s.draws := rfl
@[simp] theorem State.setVar_schedule (v : Flag) : (s.setVar v).schedule = s.schedule := rfl
@[simp] theorem State.setVar_resets (v : Flag) : (s.setVar v).resets = s.resets := rfl

/-! `setCrit`. -/

@[simp] theorem State.setCrit_ph (f : Flag) : (s.setCrit f).ph = s.ph := rfl
@[simp] theorem State.setCrit_idx (f : Flag) : (s.setCrit f).idx = s.idx := rfl
@[simp] theorem State.setCrit_cnt (f : Flag) : (s.setCrit f).cnt = s.cnt := rfl
@[simp] theorem State.setCrit_raw (f : Flag) : (s.setCrit f).raw = s.raw := rfl
@[simp] theorem State.setCrit_buf (f : Flag) : (s.setCrit f).buf = s.buf := rfl
@[simp] theorem State.setCrit_out (f : Flag) : (s.setCrit f).out = s.out := rfl
@[simp] theorem State.setCrit_outValid (f : Flag) : (s.setCrit f).outValid = s.outValid := rfl
@[simp] theorem State.setCrit_res (f : Flag) : (s.setCrit f).res = s.res := rfl
@[simp] theorem State.setCrit_orig (f : Flag) : (s.setCrit f).orig = s.orig := rfl
@[simp] theorem State.setCrit_var (f : Flag) : (s.setCrit f).var = s.var := rfl
@[simp] theorem State.setCrit_crit (f : Flag) : (s.setCrit f).crit = f := rfl
@[simp] theorem State.setCrit_trace (f : Flag) : (s.setCrit f).trace = s.trace := rfl
@[simp] theorem State.setCrit_hostLog (f : Flag) : (s.setCrit f).hostLog = s.hostLog := rfl
@[simp] theorem State.setCrit_params (f : Flag) : (s.setCrit f).params = s.params := rfl
@[simp] theorem State.setCrit_answers (f : Flag) : (s.setCrit f).answers = s.answers := rfl
@[simp] theorem State.setCrit_draws (f : Flag) : (s.setCrit f).draws = s.draws := rfl
@[simp] theorem State.setCrit_schedule (f : Flag) : (s.setCrit f).schedule = s.schedule := rfl
@[simp] theorem State.setCrit_resets (f : Flag) : (s.setCrit f).resets = s.resets := rfl

/-! `emit`. -/

@[simp] theorem State.emit_ph (e : PortEvent) : (s.emit e).ph = s.ph := rfl
@[simp] theorem State.emit_idx (e : PortEvent) : (s.emit e).idx = s.idx := rfl
@[simp] theorem State.emit_cnt (e : PortEvent) : (s.emit e).cnt = s.cnt := rfl
@[simp] theorem State.emit_raw (e : PortEvent) : (s.emit e).raw = s.raw := rfl
@[simp] theorem State.emit_buf (e : PortEvent) : (s.emit e).buf = s.buf := rfl
@[simp] theorem State.emit_out (e : PortEvent) : (s.emit e).out = s.out := rfl
@[simp] theorem State.emit_outValid (e : PortEvent) : (s.emit e).outValid = s.outValid := rfl
@[simp] theorem State.emit_res (e : PortEvent) : (s.emit e).res = s.res := rfl
@[simp] theorem State.emit_orig (e : PortEvent) : (s.emit e).orig = s.orig := rfl
@[simp] theorem State.emit_var (e : PortEvent) : (s.emit e).var = s.var := rfl
@[simp] theorem State.emit_crit (e : PortEvent) : (s.emit e).crit = s.crit := rfl
@[simp] theorem State.emit_trace (e : PortEvent) : (s.emit e).trace = s.trace ++ [e] := rfl
@[simp] theorem State.emit_hostLog (e : PortEvent) : (s.emit e).hostLog = s.hostLog := rfl
@[simp] theorem State.emit_params (e : PortEvent) : (s.emit e).params = s.params := rfl
@[simp] theorem State.emit_answers (e : PortEvent) : (s.emit e).answers = s.answers := rfl
@[simp] theorem State.emit_draws (e : PortEvent) : (s.emit e).draws = s.draws := rfl
@[simp] theorem State.emit_schedule (e : PortEvent) : (s.emit e).schedule = s.schedule := rfl
@[simp] theorem State.emit_resets (e : PortEvent) : (s.emit e).resets = s.resets := rfl

/-! `afterPinGet`. -/

@[simp] theorem State.afterPinGet_ph : s.afterPinGet.ph = s.ph := rfl
@[simp] theorem State.afterPinGet_idx : s.afterPinGet.idx = s.idx := rfl
@[simp] theorem State.afterPinGet_cnt : s.afterPinGet.cnt = s.cnt := rfl
@[simp] theorem State.afterPinGet_raw : s.afterPinGet.raw = s.raw := rfl
@[simp] theorem State.afterPinGet_buf : s.afterPinGet.buf = s.buf := rfl
@[simp] theorem State.afterPinGet_out : s.afterPinGet.out = s.out := rfl
@[simp] theorem State.afterPinGet_outValid : s.afterPinGet.outValid = s.outValid := rfl
@[simp] theorem State.afterPinGet_res : s.afterPinGet.res = s.res := rfl
@[simp] theorem State.afterPinGet_orig : s.afterPinGet.orig = s.orig := rfl
@[simp] theorem State.afterPinGet_var : s.afterPinGet.var = s.var := rfl
@[simp] theorem State.afterPinGet_crit : s.afterPinGet.crit = s.crit := rfl
@[simp] theorem State.afterPinGet_trace : s.afterPinGet.trace = s.trace ++ [.pinGet s.pinAnswer] := rfl
@[simp] theorem State.afterPinGet_hostLog : s.afterPinGet.hostLog = s.hostLog := rfl
@[simp] theorem State.afterPinGet_params : s.afterPinGet.params = s.params := rfl
@[simp] theorem State.afterPinGet_answers : s.afterPinGet.answers = s.answers.tail := rfl
@[simp] theorem State.afterPinGet_draws : s.afterPinGet.draws = s.draws + 1 := rfl
@[simp] theorem State.afterPinGet_schedule : s.afterPinGet.schedule = s.schedule := rfl
@[simp] theorem State.afterPinGet_resets : s.afterPinGet.resets = s.resets := rfl

/-! `logHost`. -/

@[simp] theorem State.logHost_ph (e : HostEvent) : (s.logHost e).ph = s.ph := rfl
@[simp] theorem State.logHost_idx (e : HostEvent) : (s.logHost e).idx = s.idx := rfl
@[simp] theorem State.logHost_cnt (e : HostEvent) : (s.logHost e).cnt = s.cnt := rfl
@[simp] theorem State.logHost_raw (e : HostEvent) : (s.logHost e).raw = s.raw := rfl
@[simp] theorem State.logHost_buf (e : HostEvent) : (s.logHost e).buf = s.buf := rfl
@[simp] theorem State.logHost_out (e : HostEvent) : (s.logHost e).out = s.out := rfl
@[simp] theorem State.logHost_outValid (e : HostEvent) : (s.logHost e).outValid = s.outValid := rfl
@[simp] theorem State.logHost_res (e : HostEvent) : (s.logHost e).res = s.res := rfl
@[simp] theorem State.logHost_orig (e : HostEvent) : (s.logHost e).orig = s.orig := rfl
@[simp] theorem State.logHost_var (e : HostEvent) : (s.logHost e).var = s.var := rfl
@[simp] theorem State.logHost_crit (e : HostEvent) : (s.logHost e).crit = s.crit := rfl
@[simp] theorem State.logHost_trace (e : HostEvent) : (s.logHost e).trace = s.trace := rfl
@[simp] theorem State.logHost_hostLog (e : HostEvent) : (s.logHost e).hostLog = s.hostLog ++ [e] := rfl
@[simp] theorem State.logHost_params (e : HostEvent) : (s.logHost e).params = s.params := rfl
@[simp] theorem State.logHost_answers (e : HostEvent) : (s.logHost e).answers = s.answers := rfl
@[simp] theorem State.logHost_draws (e : HostEvent) : (s.logHost e).draws = s.draws := rfl
@[simp] theorem State.logHost_schedule (e : HostEvent) : (s.logHost e).schedule = s.schedule := rfl
@[simp] theorem State.logHost_resets (e : HostEvent) : (s.logHost e).resets = s.resets := rfl

/-! `popTurn`. -/

@[simp] theorem State.popTurn_ph : s.popTurn.ph = s.ph := rfl
@[simp] theorem State.popTurn_idx : s.popTurn.idx = s.idx := rfl
@[simp] theorem State.popTurn_cnt : s.popTurn.cnt = s.cnt := rfl
@[simp] theorem State.popTurn_raw : s.popTurn.raw = s.raw := rfl
@[simp] theorem State.popTurn_buf : s.popTurn.buf = s.buf := rfl
@[simp] theorem State.popTurn_out : s.popTurn.out = s.out := rfl
@[simp] theorem State.popTurn_outValid : s.popTurn.outValid = s.outValid := rfl
@[simp] theorem State.popTurn_res : s.popTurn.res = s.res := rfl
@[simp] theorem State.popTurn_orig : s.popTurn.orig = s.orig := rfl
@[simp] theorem State.popTurn_var : s.popTurn.var = s.var := rfl
@[simp] theorem State.popTurn_crit : s.popTurn.crit = s.crit := rfl
@[simp] theorem State.popTurn_trace : s.popTurn.trace = s.trace := rfl
@[simp] theorem State.popTurn_hostLog : s.popTurn.hostLog = s.hostLog := rfl
@[simp] theorem State.popTurn_params : s.popTurn.params = s.params := rfl
@[simp] theorem State.popTurn_answers : s.popTurn.answers = s.answers := rfl
@[simp] theorem State.popTurn_draws : s.popTurn.draws = s.draws := rfl
@[simp] theorem State.popTurn_schedule : s.popTurn.schedule = s.schedule.tail := rfl
@[simp] theorem State.popTurn_resets : s.popTurn.resets = s.resets := rfl

/-! `fail`. -/

@[simp] theorem State.fail_ph (k : ErrorKind) : (s.fail k).ph = Phase.restore := rfl
@[simp] theorem State.fail_idx (k : ErrorKind) : (s.fail k).idx = s.idx := rfl
@[simp] theorem State.fail_cnt (k : ErrorKind) : (s.fail k).cnt = s.cnt := rfl
@[simp] theorem State.fail_raw (k : ErrorKind) : (s.fail k).raw = s.raw := rfl
@[simp] theorem State.fail_buf (k : ErrorKind) : (s.fail k).buf = s.buf := rfl
@[simp] theorem State.fail_out (k : ErrorKind) : (s.fail k).out = s.out := rfl
@[simp] theorem State.fail_outValid (k : ErrorKind) : (s.fail k).outValid = s.outValid := rfl
@[simp] theorem State.fail_res (k : ErrorKind) : (s.fail k).res = k.code := rfl
@[simp] theorem State.fail_orig (k : ErrorKind) : (s.fail k).orig = s.orig := rfl
@[simp] theorem State.fail_var (k : ErrorKind) : (s.fail k).var = s.var := rfl
@[simp] theorem State.fail_crit (k : ErrorKind) : (s.fail k).crit = s.crit := rfl
@[simp] theorem State.fail_trace (k : ErrorKind) : (s.fail k).trace = s.trace := rfl
@[simp] theorem State.fail_hostLog (k : ErrorKind) : (s.fail k).hostLog = s.hostLog := rfl
@[simp] theorem State.fail_params (k : ErrorKind) : (s.fail k).params = s.params := rfl
@[simp] theorem State.fail_answers (k : ErrorKind) : (s.fail k).answers = s.answers := rfl
@[simp] theorem State.fail_draws (k : ErrorKind) : (s.fail k).draws = s.draws := rfl
@[simp] theorem State.fail_schedule (k : ErrorKind) : (s.fail k).schedule = s.schedule := rfl
@[simp] theorem State.fail_resets (k : ErrorKind) : (s.fail k).resets = s.resets := rfl

/-! `restoreLine`. -/

@[simp] theorem State.restoreLine_ph : s.restoreLine.ph = Phase.idle := rfl
@[simp] theorem State.restoreLine_idx : s.restoreLine.idx = s.idx := rfl
@[simp] theorem State.restoreLine_cnt : s.restoreLine.cnt = s.cnt := rfl
@[simp] theorem State.restoreLine_raw : s.restoreLine.raw = s.raw := rfl
@[simp] theorem State.restoreLine_buf : s.restoreLine.buf = s.buf := rfl
@[simp] theorem State.restoreLine_out : s.restoreLine.out = s.out := rfl
@[simp] theorem State.restoreLine_outValid : s.restoreLine.outValid = s.outValid := rfl
@[simp] theorem State.restoreLine_res : s.restoreLine.res = s.res := rfl
@[simp] theorem State.restoreLine_orig : s.restoreLine.orig = s.orig := rfl
@[simp] theorem State.restoreLine_var : s.restoreLine.var = s.var := rfl
@[simp] theorem State.restoreLine_crit : s.restoreLine.crit = s.crit := rfl
@[simp] theorem State.restoreLine_trace : s.restoreLine.trace = s.trace ++ [.pinSet s.orig] := rfl
@[simp] theorem State.restoreLine_hostLog : s.restoreLine.hostLog = s.hostLog := rfl
@[simp] theorem State.restoreLine_params : s.restoreLine.params = s.params := rfl
@[simp] theorem State.restoreLine_answers : s.restoreLine.answers = s.answers := rfl
@[simp] theorem State.restoreLine_draws : s.restoreLine.draws = s.draws := rfl
@[simp] theorem State.restoreLine_schedule : s.restoreLine.schedule = s.schedule := rfl
@[simp] theorem State.restoreLine_resets : s.restoreLine.resets = s.resets := rfl

/-! The answer of the pin does not depend on what the writers before it wrote. -/

@[simp] theorem State.setCnt_pinAnswer (n : Nat) : (s.setCnt n).pinAnswer = s.pinAnswer := rfl
@[simp] theorem State.setPh_pinAnswer (c : PhaseCode) : (s.setPh c).pinAnswer = s.pinAnswer := rfl
@[simp] theorem State.popTurn_pinAnswer : s.popTurn.pinAnswer = s.pinAnswer := rfl

end Sys2Proof.Machine
end

