-- ==== Sys2Proof/Laws/Ops.lean ====
section
/-! SUPPORT. One lemma per shared operation that says once everything it can do, for proofs to cite in place
of unfolding it. -/

namespace Sys2Proof.Machine

variable {s t : State}

/-- The parameters that reset starts the machine with meet R8. -/
theorem config_params_wf : Config.params.wf :=
  ⟨Nat.succ_pos _, Nat.lt_of_lt_of_le Nat.lt_log2_self
    (Nat.pow_le_pow_right (by decide) (Nat.le_add_right _ _))⟩

/-! The pin port. -/

theorem State.pinAnswer_cons {b : Level} {rest : List Level} (h : s.answers = b :: rest) :
    s.pinAnswer = b := by
  simp [State.pinAnswer, h]

theorem State.pinAnswer_nil (h : s.answers = []) : s.pinAnswer = Config.pinLevel s.draws := by
  simp [State.pinAnswer, h]

/-! The Pulse Sampler. -/

/-- A tick ends the wait with the count, ends it with the sentinel, or counts (R80). -/
theorem State.tick_cases (level : Level) (finish : Nat → State → State) (s : State) :
    (s.pinAnswer ≠ level ∧ s.tick level finish = finish s.cnt (s.afterPinGet.setCnt 0)) ∨
    (s.pinAnswer = level ∧ s.cnt + 1 = s.params.timeout ∧
      s.tick level finish = finish s.params.timeout (s.afterPinGet.setCnt 0)) ∨
    (s.pinAnswer = level ∧ s.cnt + 1 ≠ s.params.timeout ∧
      s.tick level finish = s.afterPinGet.setCnt (s.cnt + 1)) := by
  unfold State.tick
  by_cases h : s.pinAnswer = level
  · by_cases h' : s.cnt + 1 = s.params.timeout
    · exact .inr (.inl ⟨h, h', by simp [h, h']⟩)
    · exact .inr (.inr ⟨h, h', by simp [h, h']⟩)
  · exact .inl ⟨h, by simp [h]⟩

/-- A tick performs exactly one port operation, a pin read, whatever its continuation does with the ports,
as long as that is nothing (R80, R116). -/
theorem State.tick_trace {level : Level} {finish : Nat → State → State}
    (hf : ∀ r u, (finish r u).trace = u.trace) :
    (s.tick level finish).trace = s.trace ++ [.pinGet s.pinAnswer] := by
  obtain ⟨-, h⟩ | ⟨-, -, h⟩ | ⟨-, -, h⟩ := State.tick_cases level finish s <;> simp [h, hf]

/-- A transmission wait ends in NoSignal or in the next phase (R98 to R100). -/
theorem State.finishAck_cases (next : PhaseCode) (r : Nat) (s : State) :
    (r = s.params.timeout ∧ s.finishAck next r = s.fail .noSignal) ∨
    (r ≠ s.params.timeout ∧ s.finishAck next r = s.setPh next) := by
  unfold State.finishAck
  by_cases h : r = s.params.timeout
  · exact .inl ⟨h, by simp [h]⟩
  · exact .inr ⟨h, by simp [h]⟩

/-- RX_HIGH goes back to RX_LOW, or out of reception after slot 79 (R112). -/
theorem State.finishHigh_cases (r : Nat) (s : State) :
    (s.idx = 79 ∧ s.finishHigh r = (s.setSlot r).setPh Phase.critExit) ∨
    (s.idx ≠ 79 ∧ s.finishHigh r = ((s.setSlot r).setIdx (s.idx + 1)).setPh Phase.rxLow) := by
  unfold State.finishHigh
  by_cases h : s.idx = 79
  · exact .inl ⟨h, if_pos h⟩
  · exact .inr ⟨h, if_neg h⟩

@[simp] theorem State.finishAck_trace (next : PhaseCode) (r : Nat) (s : State) :
    (s.finishAck next r).trace = s.trace := by
  obtain ⟨-, h⟩ | ⟨-, h⟩ := State.finishAck_cases next r s <;> simp [h]

@[simp] theorem State.finishLow_trace (r : Nat) (s : State) : (s.finishLow r).trace = s.trace := rfl

@[simp] theorem State.finishHigh_trace (r : Nat) (s : State) : (s.finishHigh r).trace = s.trace := by
  obtain ⟨-, h⟩ | ⟨-, h⟩ := State.finishHigh_cases r s <;> simp [h]

/-- A reception tick that answers a next state had a slot to fill and is that tick. -/
theorem State.receptionTick_next {level : Level} {finish : Nat → State → State}
    (h : s.receptionTick level finish = .next t) : s.idx.toNat < 80 ∧ t = s.tick level finish := by
  unfold State.receptionTick at h
  split at h
  · exact ⟨‹_›, by simpa using h.symm⟩
  · cases h

/-- The slot a wait has filled holds its result, every other slot what it held (R111, R112). -/
theorem State.setSlot_raw_get (r : Nat) (s : State) (j : Fin 80) :
    (s.setSlot r).raw[j] = if s.idx.toNat = j.val then r else s.raw[j] := by
  simp [Vector.getElem_setIfInBounds]

/-! The host port. -/

/-- START is taken in IDLE and ignored elsewhere (R141, R142). -/
theorem State.startRead_cases (v : Flag) (s : State) :
    (s.ph = Phase.idle ∧ s.startRead v =
      ((((s.setVar v).setRes Res.none).setCnt 0).setIdx 0).setPh Phase.guardGet) ∨
    (s.ph ≠ Phase.idle ∧ s.startRead v = s) := by
  unfold State.startRead
  by_cases h : s.ph = Phase.idle
  · exact .inl ⟨h, by simp [h]⟩
  · exact .inr ⟨h, by simp [h]⟩

/-- A host write is an instruction only as START, and only at register 0 (R65, R144). -/
theorem hostWriteInstr_some {n : HostReg} {v : Byte} {i : Instr} (h : hostWriteInstr n v = some i) :
    n = 0 ∧ v.extractLsb' 0 1 = 1#1 ∧ i = .start (v.extractLsb' 1 1).toNat (v.extractLsb' 2 6) := by
  unfold hostWriteInstr decode decodeCtrl at h
  split at h
  · dsimp only at h
    split at h
    · exact ⟨‹_›, ‹_›, by simpa [Except.toOption] using h.symm⟩
    · simp [Except.toOption] at h
  · cases h

/-- A reset is taken in IDLE only (R190, R192). -/
theorem State.takeReset_next (h : s.takeReset = .next t) :
    s.ph = Phase.idle ∧ t = { State.afterReset s.params (s.resets + 1) with
      answers := s.answers, draws := s.draws, schedule := s.schedule } := by
  unfold State.takeReset at h
  split at h
  · exact ⟨‹_›, by simpa using h.symm⟩
  · cases h

/-! Steps. -/

/-- Everything a step that answers a next state can be: a micro-operation, a host read, START, another host
write, or a reset. -/
theorem step_cases (h : step s = .next t) :
    (∃ i, s.nextTurn = .sequencer ∧ decodePhase s.ph = .ok i ∧ exec i s.popTurn = .next t) ∨
    (∃ n, s.nextTurn = .regRead n ∧ t = s.popTurn.hostRead n) ∨
    (∃ n v i, s.nextTurn = .regWrite n v ∧ hostWriteInstr n v = some i ∧
      exec i (s.popTurn.logHost (.wrote n v)) = .next t) ∨
    (∃ n v, s.nextTurn = .regWrite n v ∧ hostWriteInstr n v = none ∧
      t = s.popTurn.logHost (.wrote n v)) ∨
    (s.nextTurn = .reset ∧ s.popTurn.takeReset = .next t) := by
  unfold step at h
  split at h
  · split at h
    · exact .inl ⟨_, ‹_›, ‹_›, h⟩
    · cases h
  · exact .inr (.inl ⟨_, ‹_›, by simpa using h.symm⟩)
  · split at h
    · exact .inr (.inr (.inl ⟨_, _, _, ‹_›, ‹_›, h⟩))
    · exact .inr (.inr (.inr (.inl ⟨_, _, ‹_›, ‹_›, by simpa using h.symm⟩)))
  · exact .inr (.inr (.inr (.inr ⟨‹_›, h⟩)))

@[simp] theorem runSteps_zero (s : State) : runSteps 0 s = .next s := rfl

/-- A step that answers a next state can be taken off a run. -/
theorem runSteps_succ_next {k : Nat} {u : State} (h : step s = .next u) :
    runSteps (k + 1) s = runSteps k u := by
  simp [runSteps, h]

/-- A run of `a + b` steps is a run of `b` after a run of `a`. -/
theorem runSteps_add {a b : Nat} {u : State} (h : runSteps a s = .next u) :
    runSteps (a + b) s = runSteps b u := by
  induction a generalizing s with
  | zero => cases h; simp
  | succ a ih =>
    rw [Nat.succ_add]
    cases hs : step s with
    | next v => rw [runSteps_succ_next hs] at h ⊢; exact ih h
    | fault r => simp [runSteps, hs] at h
    | refused r => simp [runSteps, hs] at h

/-- `runSteps` is the host's run of the machine. -/
theorem runSteps_eq_core_run (k : Nat) (s : State) : runSteps k s = core.run k s := by
  induction k generalizing s with
  | zero => rfl
  | succ k ih =>
    cases h : step s with
    | next u => rw [runSteps_succ_next h, ih]; exact (by simp [Host.Core.run, core, h])
    | fault r => simp [runSteps, Host.Core.run, core, h]
    | refused r => simp [runSteps, Host.Core.run, core, h]

end Sys2Proof.Machine
end

