-- ==== Sys2Proof/Laws/HostProtocol.lean ====
section
/-! SUPPORT. What each part of the host's protocol can do, said once: a call that has returned is taken apart
with these in place of unfolding it. -/

namespace Sys2Proof.Machine

variable {α β : Type} {s t : State}

/-! Calls. -/

@[simp] theorem Call.andThen_returned (a : α) (gaps : List Nat) (f : α → List Nat → Call β) :
    Call.andThen (.next (.returned a gaps)) f = f a gaps := rfl

@[simp] theorem Call.andThen_waiting (s : State) (f : α → List Nat → Call β) :
    Call.andThen (.next (.waiting s)) f = .next (.waiting s) := rfl

@[simp] theorem Call.andThen_fault (r : Fault) (f : α → List Nat → Call β) :
    Call.andThen (.fault r) f = .fault r := rfl

@[simp] theorem Call.andThen_refused (r : Refusal) (f : α → List Nat → Call β) :
    Call.andThen (.refused r) f = .refused r := rfl

/-- A call has returned exactly when its parts have, one after the other. -/
theorem Call.andThen_eq_returned {c : Call α} {f : α → List Nat → Call β} {b : β} {rest : List Nat} :
    c.andThen f = .next (.returned b rest) ↔
      ∃ a gaps, c = .next (.returned a gaps) ∧ f a gaps = .next (.returned b rest) := by
  constructor
  · intro h
    unfold Call.andThen at h
    split at h
    · exact ⟨_, _, rfl, h⟩
    all_goals cases h
  · rintro ⟨a, gaps, rfl, h⟩
    exact h

/-! Steps made now. -/

@[simp] theorem State.stepBy_regRead (n : HostReg) (s : State) :
    s.stepBy (.regRead n) = .next (s.hostRead n) := rfl

/-- The host's START (R141, R142): recorded, and taken in IDLE. -/
@[simp] theorem State.stepBy_startWord (v : Flag) (s : State) :
    s.stepBy (.regWrite 0 (startWord v)) =
      .next ((s.logHost (.wrote 0 (startWord v))).startRead v) := by
  have h : hostWriteInstr 0 (startWord v) = some (.start v.toNat 0) := by revert v; decide
  have hv : BitVec.ofNat 1 v.toNat = v := by simp
  simp only [State.stepBy, step, State.nextTurn, h]
  simp only [exec, execStart, hv]
  rfl

/-- Where nothing is scheduled the sequencer's step is the machine's. -/
theorem State.stepBy_sequencer_of_quiet (h : s.HostQuiet) : s.stepBy .sequencer = step s := by
  unfold State.HostQuiet at h
  simp [State.stepBy, step, State.nextTurn, State.popTurn, h]

/-- A tick does not look at the turns to come, if its continuation does not. -/
theorem State.tick_schedule (l : List Turn) {level : Level} {finish : Nat → State → State}
    (hf : ∀ r u, finish r { u with schedule := l } = { finish r u with schedule := l }) (s : State) :
    State.tick level finish { s with schedule := l } =
      { s.tick level finish with schedule := l } := by
  have hp : State.pinAnswer { s with schedule := l } = s.pinAnswer := rfl
  have ha : ∀ n, State.setCnt n (State.afterPinGet { s with schedule := l }) =
      { s.afterPinGet.setCnt n with schedule := l } := fun _ => rfl
  simp only [State.tick, hp, ha, hf]
  split
  · rfl
  · split <;> rfl

/-- No instruction looks at the turns to come. -/
theorem exec_schedule {i : Instr} (l : List Turn) (h : exec i s = .next t) :
    exec i { s with schedule := l } = .next { t with schedule := l } := by
  have ack : ∀ c r u, State.finishAck c r { u with schedule := l } =
      { State.finishAck c r u with schedule := l } := by
    intro c r u; unfold State.finishAck; split <;> rfl
  have high : ∀ r u, State.finishHigh r { u with schedule := l } =
      { State.finishHigh r u with schedule := l } := by
    intro r u; unfold State.finishHigh; split <;> rfl
  cases i
  case ack1 | ack2 | ack3 => cases h; exact congrArg _ (State.tick_schedule l (ack _) s)
  case rxLow =>
    obtain ⟨hi, rfl⟩ := State.receptionTick_next h
    exact (if_pos hi).trans (congrArg _ (State.tick_schedule l (fun _ _ => rfl) s))
  case rxHigh =>
    obtain ⟨hi, rfl⟩ := State.receptionTick_next h
    exact (if_pos hi).trans (congrArg _ (State.tick_schedule l high s))
  case slice => cases h; simp only [exec, execSlice]; split <;> rfl
  case check => cases h; simp only [exec, execCheck]; split <;> rfl
  case guardGet => cases h; rfl
  case start =>
    cases h
    simp only [exec, execStart, State.startRead]
    split <;> rfl
  all_goals cases h; rfl

/-- No instruction changes the turns to come. -/
theorem exec_keeps_schedule {i : Instr} (h : exec i s = .next t) : t.schedule = s.schedule := by
  have h' := exec_schedule s.schedule h
  rw [show ({ s with schedule := s.schedule } : State) = s from rfl, h] at h'
  have ht := congrArg State.schedule (Host.Outcome.next.inj h')
  exact ht

/-- A sequencer's step made now runs the instruction PH holds and leaves the turns to come. -/
theorem State.stepBy_sequencer_next (h : s.stepBy .sequencer = .next t) :
    ∃ i, decodePhase s.ph = .ok i ∧ exec i s = .next t := by
  unfold State.stepBy step at h
  dsimp only [State.nextTurn, State.popTurn] at h
  split at h
  · exact ⟨_, ‹_›, h⟩
  · cases h

/-- The same from the instruction. -/
theorem State.stepBy_sequencer_of_exec {i : Instr} (hi : decodePhase s.ph = .ok i)
    (h : exec i s = .next t) : s.stepBy .sequencer = .next t := by
  simp only [State.stepBy, step, State.nextTurn, hi]
  exact h

/-- The turns to come make no difference to a sequencer's step made now. -/
theorem State.stepBy_sequencer_schedule (l : List Turn) (h : s.stepBy .sequencer = .next t) :
    State.stepBy .sequencer { s with schedule := l } = .next { t with schedule := l } := by
  obtain ⟨i, hi, he⟩ := State.stepBy_sequencer_next h
  exact State.stepBy_sequencer_of_exec hi (exec_schedule l he)

@[simp] theorem sequencerSteps_zero (s : State) : sequencerSteps 0 s = .next s := rfl

/-- A property that the sequencer's steps keep holds after any number of them. -/
theorem sequencerSteps_induction {P : State → Prop}
    (hP : ∀ u v, P u → u.stepBy .sequencer = .next v → P v) {k : Nat}
    (h : sequencerSteps k s = .next t) (hs : P s) : P t := by
  induction k generalizing s with
  | zero => cases h; exact hs
  | succ k ih =>
    unfold sequencerSteps at h
    split at h
    · exact ih h (hP _ _ hs ‹_›)
    all_goals cases h

/-- Where nothing is scheduled the sequencer's steps are the machine's. -/
theorem sequencerSteps_of_runSteps {k : Nat} (hs : s.HostQuiet) (h : runSteps k s = .next t) :
    sequencerSteps k s = .next t := by
  induction k generalizing s with
  | zero => exact h
  | succ k ih =>
    unfold sequencerSteps
    rw [State.stepBy_sequencer_of_quiet hs]
    cases hu : step s with
    | next u =>
      rw [runSteps_succ_next hu] at h
      rw [← State.stepBy_sequencer_of_quiet hs] at hu
      obtain ⟨i, -, he⟩ := State.stepBy_sequencer_next hu
      exact ih ((exec_keeps_schedule he).trans hs) h
    | fault r => simp [runSteps, hu] at h
    | refused r => simp [runSteps, hu] at h

/-- The turns to come make no difference to them. -/
theorem sequencerSteps_schedule {k : Nat} (l : List Turn) (h : sequencerSteps k s = .next t) :
    sequencerSteps k { s with schedule := l } = .next { t with schedule := l } := by
  induction k generalizing s with
  | zero => cases h; rfl
  | succ k ih =>
    unfold sequencerSteps at h ⊢
    split at h
    · rw [State.stepBy_sequencer_schedule l ‹_›]; exact ih h
    all_goals cases h

/-- In IDLE the sequencer changes nothing (R140). -/
theorem sequencerSteps_idle (k : Nat) (h : s.ph = Phase.idle) : sequencerSteps k s = .next s := by
  induction k with
  | zero => rfl
  | succ k ih =>
    have : s.stepBy .sequencer = .next s := by
      cases s
      cases h
      rfl
    simp [sequencerSteps, this, ih]

/-! The registers as the host sees them. -/

/-- A read changes what no register reads as (R44, R143). -/
@[simp] theorem State.regRead_hostRead (m n : HostReg) (s : State) :
    (s.hostRead n).regRead m = s.regRead m := rfl

@[simp] theorem State.regRead_hostLog (m : HostReg) (l : List HostEvent) (s : State) :
    State.regRead m { s with hostLog := l } = s.regRead m := rfl

@[simp] theorem State.readResult_hostRead (n : HostReg) (s : State) :
    (s.hostRead n).readResult = s.readResult := rfl

/-- The two fields of STATUS that the protocol looks at are BUSY and RES. -/
@[simp] theorem statusBusy_regRead (s : State) : statusBusy (s.regRead 1#3) = s.busy := by
  show BitVec.extractLsb' 0 1 (0#1 ++ s.res ++ 0#1 ++ s.crit ++ s.outValid ++ s.busy) = s.busy
  generalize s.res = a, s.crit = b, s.outValid = c, s.busy = d
  revert a b c d
  decide

@[simp] theorem statusRes_regRead (s : State) : statusRes (s.regRead 1#3) = s.res := by
  show BitVec.extractLsb' 4 3 (0#1 ++ s.res ++ 0#1 ++ s.crit ++ s.outValid ++ s.busy) = s.res
  generalize s.res = a, s.crit = b, s.outValid = c, s.busy = d
  revert a b c d
  decide

/-- BUSY = 0 exactly in IDLE (10_state.md R32). -/
theorem State.busy_eq_zero : s.busy = 0 ↔ s.ph = Phase.idle := by
  unfold State.busy
  split <;> simp_all

/-- What the registers tell, over the registers themselves: in IDLE the bytes of OUT on OK, else the error RES
names. -/
theorem State.readResult_idle (h : s.ph = Phase.idle) :
    s.readResult = if s.res = Res.ok then some (.bytes s.out)
      else (ErrorKind.ofCode s.res).map .error := by
  have hb : s.busy = 0 := State.busy_eq_zero.mpr h
  have ho : (#v[s.regRead 2, s.regRead 3, s.regRead 4, s.regRead 5, s.regRead 6] : Vector Byte 5) = s.out := by
    apply Vector.ext
    intro i hi
    obtain rfl | rfl | rfl | rfl | rfl : i = 0 ∨ i = 1 ∨ i = 2 ∨ i = 3 ∨ i = 4 := by omega
    all_goals rfl
  have hs : s.readResult = if s.busy = 1 then none else if s.res = Res.ok then some (.bytes s.out)
      else (ErrorKind.ofCode s.res).map .error := by
    rw [← statusBusy_regRead, ← statusRes_regRead, ← ho]
    rfl
  rw [hs, hb, if_neg (by decide)]

/-- Recording an access touches no invariant of R36. -/
theorem State.Inv.logHost (h : s.Inv) (e : HostEvent) : (s.logHost e).Inv :=
  { h with }

theorem State.Inv.hostRead (h : s.Inv) (n : HostReg) : (s.hostRead n).Inv :=
  h.logHost _

/-- Nor does the record itself. -/
theorem State.Inv.hostLog (h : s.Inv) (l : List HostEvent) : State.Inv { s with hostLog := l } :=
  { h with }

/-- Nor do the turns to come. -/
theorem State.Inv.schedule (h : s.Inv) (l : List Turn) : State.Inv { s with schedule := l } :=
  { h with }

/-! Accesses. -/

/-- An access that has returned used one gap: the sequencer's steps, and the access. -/
theorem hostAccess_returned {a : Turn} {gaps rest : List Nat}
    (h : hostAccess a s gaps = .next (.returned t rest)) :
    ∃ k u, gaps = k :: rest ∧ sequencerSteps k s = .next u ∧ u.stepBy a = .next t := by
  unfold hostAccess at h
  split at h
  · cases h
  · split at h
    · split at h
      · cases h; exact ⟨_, _, rfl, ‹_›, ‹_›⟩
      all_goals cases h
    all_goals cases h

/-- A read that has returned: the sequencer's steps, then the record of the value the register holds, which is
the value returned. -/
theorem readRegister_returned {n : HostReg} {v : Byte} {gaps rest : List Nat}
    (h : readRegister n s gaps = .next (.returned (v, t) rest)) :
    ∃ k u, gaps = k :: rest ∧ sequencerSteps k s = .next u ∧ v = u.regRead n ∧ t = u.hostRead n := by
  obtain ⟨w, g, ha, hw⟩ := Call.andThen_eq_returned.mp h
  obtain ⟨k, u, rfl, hk, hu⟩ := hostAccess_returned ha
  cases hu
  cases hw
  exact ⟨k, u, rfl, hk, rfl, rfl⟩

/-- In IDLE it reads the register as it is. -/
theorem readRegister_returned_idle {n : HostReg} {v : Byte} {gaps rest : List Nat}
    (hs : s.ph = Phase.idle) (h : readRegister n s gaps = .next (.returned (v, t) rest)) :
    v = s.regRead n ∧ t = s.hostRead n := by
  obtain ⟨k, u, -, hk, rfl, rfl⟩ := readRegister_returned h
  rw [sequencerSteps_idle k hs] at hk
  cases hk
  exact ⟨rfl, rfl⟩

/-- In IDLE the five reads of DATA give OUT and change nothing but the record of them. -/
theorem readData_returned_idle {b : Vector Byte 5} {gaps rest : List Nat}
    (hs : s.ph = Phase.idle) (h : readData s gaps = .next (.returned (b, t) rest)) :
    b = #v[s.regRead 2, s.regRead 3, s.regRead 4, s.regRead 5, s.regRead 6] ∧
      t = { s with hostLog := s.hostLog ++ [.read 2 (s.regRead 2), .read 3 (s.regRead 3),
        .read 4 (s.regRead 4), .read 5 (s.regRead 5), .read 6 (s.regRead 6)] } := by
  unfold readData at h
  obtain ⟨⟨b0, u0⟩, _, h0, h⟩ := Call.andThen_eq_returned.mp h
  obtain ⟨rfl, rfl⟩ := readRegister_returned_idle hs h0
  obtain ⟨⟨b1, u1⟩, _, h1, h⟩ := Call.andThen_eq_returned.mp h
  obtain ⟨rfl, rfl⟩ := readRegister_returned_idle (by exact hs) h1
  obtain ⟨⟨b2, u2⟩, _, h2, h⟩ := Call.andThen_eq_returned.mp h
  obtain ⟨rfl, rfl⟩ := readRegister_returned_idle (by exact hs) h2
  obtain ⟨⟨b3, u3⟩, _, h3, h⟩ := Call.andThen_eq_returned.mp h
  obtain ⟨rfl, rfl⟩ := readRegister_returned_idle (by exact hs) h3
  obtain ⟨⟨b4, u4⟩, _, h4, h⟩ := Call.andThen_eq_returned.mp h
  obtain ⟨rfl, rfl⟩ := readRegister_returned_idle (by exact hs) h4
  cases h
  exact ⟨rfl, by simp [State.hostRead, State.logHost]⟩

/-- A poll that has returned saw BUSY = 0 in the STATUS of the state it leaves; what the sequencer's steps and
reads of STATUS keep is kept (R145 steps 1 and 3). -/
theorem pollUntilIdle_returned {P : State → Prop}
    (hseq : ∀ u v, P u → u.stepBy .sequencer = .next v → P v)
    (hread : ∀ u, P u → P (u.hostRead 1)) {status : Byte} {gaps rest : List Nat}
    (h : pollUntilIdle gaps s = .next (.returned (status, t) rest)) (hs : P s) :
    P t ∧ status = t.regRead 1 ∧ statusBusy status = 0 := by
  induction gaps generalizing s with
  | nil => cases h
  | cons k gaps ih =>
    obtain ⟨⟨v, u⟩, g, hr, hu⟩ := Call.andThen_eq_returned.mp h
    obtain ⟨k', w, -, hk, rfl, rfl⟩ := readRegister_returned hr
    have hw := hread w (sequencerSteps_induction hseq hk hs)
    dsimp only at hu
    split at hu
    · cases hu; exact ⟨hw, rfl, ‹_›⟩
    · exact ih hu hw

end Sys2Proof.Machine
end

