-- ==== Sys2Proof/Laws/PerInstr.lean ====
section
/-! SUPPORT. Statements about every instruction as syntax, one lemma per constructor. -/

namespace Sys2Proof.Laws.LegalCode

/-- An instruction's word is in the part of its code space that R61 and R65 give a meaning: a phase code below
0x14, or a CTRL byte with bit 0 set. -/
def Statement (i : Instr) : Prop :=
  match encode i with
  | .phase code => code.toNat < 20
  | .ctrl byte => byte.getLsbD 0 = true

theorem idle : Statement .idle := by simp [Statement, encode]
theorem guardGet : Statement .guardGet := by simp [Statement, encode]
theorem guardSet : Statement .guardSet := by simp [Statement, encode]
theorem guardSettle : Statement .guardSettle := by simp [Statement, encode]
theorem hsCfgOut : Statement .hsCfgOut := by simp [Statement, encode]
theorem hsLow : Statement .hsLow := by simp [Statement, encode]
theorem hsHold : Statement .hsHold := by simp [Statement, encode]
theorem hsHigh : Statement .hsHigh := by simp [Statement, encode]
theorem hsCfgIn : Statement .hsCfgIn := by simp [Statement, encode]
theorem ack1 : Statement .ack1 := by simp [Statement, encode]
theorem ack2 : Statement .ack2 := by simp [Statement, encode]
theorem ack3 : Statement .ack3 := by simp [Statement, encode]
theorem critEnter : Statement .critEnter := by simp [Statement, encode]
theorem rxLow : Statement .rxLow := by simp [Statement, encode]
theorem rxHigh : Statement .rxHigh := by simp [Statement, encode]
theorem critExit : Statement .critExit := by simp [Statement, encode]
theorem slice : Statement .slice := by simp [Statement, encode]
theorem check : Statement .check := by simp [Statement, encode]
theorem commit : Statement .commit := by simp [Statement, encode]
theorem restore : Statement .restore := by simp [Statement, encode]
theorem start (variant : Nat) (reserved : BitVec 6) : Statement (.start variant reserved) := by
  change (reserved ++ BitVec.ofNat 1 variant ++ 1#1).getLsbD 0 = true
  rw [BitVec.getLsbD_append]
  rfl

end Sys2Proof.Laws.LegalCode
end

