-- ==== Sys2Proof/Tests/Slice0.lean ====
section
/-! SUPPORT. Tests of the model on values from the spec (each names its rule or vector of
95_test_vectors.md), the smoke test of WellFormed, and one witness for each statement's hypotheses. -/

namespace Sys2Proof.Tests

open Sys2Proof Sys2Proof.Machine

/-! ### WellFormed -/

/-- A third variant is refused (R7, R153). -/
theorem test_wf_refuses_third_variant : (Instr.start 2 0).wf = false := by decide
theorem test_wf_accepts_variant_1 : (Instr.start 1 0x3F#6).wf = true := by decide

/-! ### Decoding: the codes of R61 and the pattern of R65, written out -/

theorem test_decode_idle : (decode (.phase 0b00000#5)).toOption = some .idle := by decide
theorem test_decode_guardGet : (decode (.phase 0b00001#5)).toOption = some .guardGet := by decide
theorem test_decode_guardSet : (decode (.phase 0b00010#5)).toOption = some .guardSet := by decide
theorem test_decode_guardSettle : (decode (.phase 0b00011#5)).toOption = some .guardSettle := by decide
theorem test_decode_hsCfgOut : (decode (.phase 0b00100#5)).toOption = some .hsCfgOut := by decide
theorem test_decode_hsLow : (decode (.phase 0b00101#5)).toOption = some .hsLow := by decide
theorem test_decode_hsHold : (decode (.phase 0b00110#5)).toOption = some .hsHold := by decide
theorem test_decode_hsHigh : (decode (.phase 0b00111#5)).toOption = some .hsHigh := by decide
theorem test_decode_hsCfgIn : (decode (.phase 0b01000#5)).toOption = some .hsCfgIn := by decide
theorem test_decode_ack1 : (decode (.phase 0b01001#5)).toOption = some .ack1 := by decide
theorem test_decode_ack2 : (decode (.phase 0b01010#5)).toOption = some .ack2 := by decide
theorem test_decode_ack3 : (decode (.phase 0b01011#5)).toOption = some .ack3 := by decide
theorem test_decode_critEnter : (decode (.phase 0b01100#5)).toOption = some .critEnter := by decide
theorem test_decode_rxLow : (decode (.phase 0b01101#5)).toOption = some .rxLow := by decide
theorem test_decode_rxHigh : (decode (.phase 0b01110#5)).toOption = some .rxHigh := by decide
theorem test_decode_critExit : (decode (.phase 0b01111#5)).toOption = some .critExit := by decide
theorem test_decode_slice : (decode (.phase 0b10000#5)).toOption = some .slice := by decide
theorem test_decode_check : (decode (.phase 0b10001#5)).toOption = some .check := by decide
theorem test_decode_commit : (decode (.phase 0b10010#5)).toOption = some .commit := by decide
theorem test_decode_restore : (decode (.phase 0b10011#5)).toOption = some .restore := by decide

/-- T70: 0x03 is START with variant 1. -/
theorem test_decode_start : (decode (.ctrl 0b00000011#8)).toOption = some (.start 1 0) := by decide

/-- T71: 0xFF is START with variant 1; bits 7:2 do not make it illegal. -/
theorem test_decode_start_reserved_bits :
    (decode (.ctrl 0b11111111#8)).toOption = some (.start 1 0b111111#6) := by decide

/-- T72: 0x02 is no command. -/
theorem test_decode_no_command : (decode (.ctrl 0b00000010#8)).toOption = none := by decide

/-- R67: every code 0x14..0x1F is rejected. -/
theorem test_decode_reserved_codes :
    ∀ k : Fin 12, (decode (.phase (BitVec.ofNat 5 (0x14 + k.val)))).toOption = none := by decide

/-- The table's numbering: RX_HIGH is 01110, a reserved code is rejected, a byte from 32 up is a CTRL byte. -/
theorem test_decodeTableWord : decodeTableWord 8 0x0E = some .rxHigh ∧ decodeTableWord 8 0x14 = none ∧
    decodeTableWord 8 0xFF = some (.start 1 0b111111#6) ∧ decodeTableWord 8 0xFE = none := by decide

/-! ### One step -/

/-- A state in a given phase with given answers to come, the rest plain: TIMEOUT = 4, as in T1 to T9. -/
def at_ (ph : PhaseCode) (answers : List Level) : State :=
  { State.afterReset ⟨4, 8⟩ 0 with
    ph := ph, answers := answers, raw := Vector.replicate 80 0, buf := #v[0, 0, 0, 0, 0]
    out := #v[0, 0, 0, 0, 0], orig := 0, var := 0 }

/-- What a step leaves, through a view of the state. -/
def after {α : Type} (f : State → α) (s : State) : Option α :=
  match step s with
  | .next t => some (f t)
  | _ => none

/-- T68. -/
theorem test_idle : after id (at_ 0x00#5 []) = some (at_ 0x00#5 []) := by decide

/-- T17. -/
theorem test_guardGet_high : after (fun t => (t.ph, t.orig, t.trace)) (at_ 0x01#5 [1#1]) =
    some (0x04#5, 1#1, [.pinGet 1#1]) := by decide

/-- T18. -/
theorem test_guardGet_low : after (fun t => (t.ph, t.orig, t.answers)) (at_ 0x01#5 [0#1, 1#1]) =
    some (0x02#5, 0#1, [1#1]) := by decide

/-- T18. -/
theorem test_guardSet : after (fun t => (t.ph, t.trace)) (at_ 0x02#5 []) =
    some (0x03#5, [.pinSet 1#1]) := by decide

/-- T18. -/
theorem test_guardSettle : after (fun t => (t.ph, t.trace)) (at_ 0x03#5 []) =
    some (0x04#5, [.delay .settle]) := by decide

/-- T19. -/
theorem test_hsCfgOut : after (fun t => (t.ph, t.trace)) (at_ 0x04#5 []) =
    some (0x05#5, [.pinConfigure .output]) := by decide

/-- T19. -/
theorem test_hsLow : after (fun t => (t.ph, t.trace)) (at_ 0x05#5 []) =
    some (0x06#5, [.pinSet 0#1]) := by decide

/-- T20. -/
theorem test_hsHold : after (fun t => (t.ph, t.trace)) { at_ 0x06#5 [] with var := 1 } =
    some (0x07#5, [.delay (.startLow 1#1)]) := by decide

/-- T19. -/
theorem test_hsHigh : after (fun t => (t.ph, t.trace)) (at_ 0x07#5 []) =
    some (0x08#5, [.pinSet 1#1]) := by decide

/-- T19. -/
theorem test_hsCfgIn : after (fun t => (t.ph, t.trace)) (at_ 0x08#5 []) =
    some (0x09#5, [.pinConfigure .input]) := by decide

/-- T1, T22: a line already departed is a result of 0, no failure. -/
theorem test_ack1_departed : after (fun t => (t.ph, t.cnt, t.res)) (at_ 0x09#5 [0#1]) =
    some (0x0A#5, 0, 0#3) := by decide

/-- T4, T23: the fourth equal answer is the sentinel. -/
theorem test_ack1_timeout : after (fun t => (t.ph, t.cnt, t.res)) { at_ 0x09#5 [1#1, 0#1] with cnt := 3 } =
    some (0x13#5, 0, 2#3) := by decide

/-- T6: the first equal answer counts. -/
theorem test_ack2_counts : after (fun t => (t.ph, t.cnt, t.res)) (at_ 0x0A#5 [0#1]) =
    some (0x0A#5, 1, 0#3) := by decide

/-- T24. -/
theorem test_ack2_timeout : after (fun t => (t.ph, t.res)) { at_ 0x0A#5 [0#1] with cnt := 3 } =
    some (0x13#5, 2#3) := by decide

/-- T3, T21: TIMEOUT - 1 equal answers are no timeout. -/
theorem test_ack3_last_chance : after (fun t => (t.ph, t.cnt, t.res)) { at_ 0x0B#5 [0#1] with cnt := 3 } =
    some (0x0C#5, 0, 0#3) := by decide

/-- T25. -/
theorem test_ack3_timeout : after (fun t => (t.ph, t.res)) { at_ 0x0B#5 [1#1] with cnt := 3 } =
    some (0x13#5, 2#3) := by decide

/-- T30. -/
theorem test_critEnter : after (fun t => (t.ph, t.crit, t.idx, t.regRead 1)) { at_ 0x0C#5 [] with idx := 7 } =
    some (0x0D#5, 1#1, 0#7, 0x05#8) := by decide

/-- T31, its third answer: RAW[0] <- 2. -/
theorem test_rxLow_stores : after (fun t => (t.ph, t.idx, t.raw[0], t.raw[1])) { at_ 0x0D#5 [1#1] with cnt := 2 } =
    some (0x0E#5, 1#7, 2, 0) := by decide

/-- T34: the sentinel is stored and reception goes on. -/
theorem test_rxLow_sentinel : after (fun t => (t.ph, t.raw[24], t.res)) { at_ 0x0D#5 [0#1] with cnt := 3, idx := 24 } =
    some (0x0E#5, 4, 0#3) := by decide

/-- T31, its last answer: RAW[1] <- 1. -/
theorem test_rxHigh_stores : after (fun t => (t.ph, t.idx, t.raw[1])) { at_ 0x0E#5 [0#1] with cnt := 1, idx := 1 } =
    some (0x0D#5, 2#7, 1) := by decide

/-- T32: after slot 79 IDX stays and reception ends. -/
theorem test_rxHigh_last : after (fun t => (t.ph, t.idx, t.raw[79])) { at_ 0x0E#5 [0#1] with cnt := 1, idx := 79 } =
    some (0x0F#5, 79#7, 1) := by decide

/-- T32. -/
theorem test_critExit : after (fun t => (t.ph, t.crit, t.trace)) { at_ 0x0F#5 [] with crit := 1 } =
    some (0x10#5, 0#1, [.critExit]) := by decide

/-- The raw sample whose pairs are (2,1) for a 0 and (2,5) for a 1 (the programs of part 3). -/
def sample (bits : List Nat) : Vector Nat 80 :=
  Vector.ofFn fun j => if j.val % 2 = 0 then 2 else if bits.getD (j.val / 2) 0 = 1 then 5 else 1

/-- T43 in byte 0, T44 in byte 1, T45 in byte 2, T46 in byte 3. -/
theorem test_slice_bytes : after (fun t => (t.ph, t.buf)) { at_ 0x10#5 [] with
      params := ⟨16, 8⟩
      raw := sample ([0,0,1,1,0,0,1,0] ++ [1,0,0,0,0,0,0,0] ++ [0,0,0,0,0,0,0,1] ++ [1,1,1,1,1,1,1,1]) } =
    some (0x11#5, #v[0x32#8, 0x80#8, 0x01#8, 0xFF#8, 0x00#8]) := by decide

/-- T50: the last slot holds the sentinel; BUF is not written. -/
theorem test_slice_sentinel : after (fun t => (t.ph, t.res, t.buf)) { at_ 0x10#5 [] with
      raw := (Vector.replicate 80 0).setIfInBounds 79 4, buf := #v[9, 9, 9, 9, 9] } =
    some (0x13#5, 3#3, #v[9, 9, 9, 9, 9]) := by decide

/-- V1a. -/
theorem test_check_passes : after (fun t => (t.ph, t.res)) { at_ 0x11#5 [] with buf := #v[0x32, 0, 0x19, 0, 0x4B] } =
    some (0x12#5, 0#3) := by decide

/-- T57: no end-around carry. -/
theorem test_check_carry : after (fun t => (t.ph, t.res)) { at_ 0x11#5 [] with buf := #v[0x80, 0x80, 0, 0, 1] } =
    some (0x13#5, 4#3) := by decide

/-- T61a. -/
theorem test_commit : after (fun t => (t.ph, t.out, t.regRead 1)) { at_ 0x12#5 [] with buf := #v[0x32, 0, 0x19, 0, 0x4B] } =
    some (0x13#5, #v[0x32#8, 0#8, 0x19#8, 0#8, 0x4B#8], 0x13#8) := by decide

/-- T26, T27. -/
theorem test_restore : after (fun t => (t.ph, t.trace)) { at_ 0x13#5 [] with orig := 1 } =
      some (0x00#5, [.pinSet 1#1]) ∧
    after (fun t => (t.ph, t.trace)) (at_ 0x13#5 []) = some (0x00#5, [.pinSet 0#1]) := by decide

/-- T71: `W CTRL <- 0xFF` in IDLE. -/
theorem test_start : after (fun t => (t.ph, t.var, t.trace, t.regRead 1, t.regRead 0))
      { at_ 0x00#5 [] with schedule := [.regWrite 0 0xFF] } =
    some (0x01#5, 1#1, [], 0x01#8, 0x02#8) := by decide

/-- T74: START while BUSY is ignored. -/
theorem test_start_busy : after (fun t => (t.ph, t.var, t.cnt, t.schedule))
      { at_ 0x09#5 [] with cnt := 2, schedule := [.regWrite 0 0x03] } =
    some (0x09#5, 0#1, 2, []) := by decide

/-- T75. -/
theorem test_write_data_ignored : after (fun t => (t.ph, t.out, t.res))
      { at_ 0x09#5 [] with schedule := [.regWrite 2 0xAA] } =
    some (0x09#5, #v[0#8, 0#8, 0#8, 0#8, 0#8], 0#3) := by decide

/-- T67: `R STATUS -> 0x00`. -/
theorem test_read_status : after (fun t => t.hostLog) { at_ 0x00#5 [] with schedule := [.regRead 1] } =
    some [.read 1#3 0x00#8] := by decide

/-- R67: a reserved code has no step. -/
theorem test_reserved_phase_stuck : step (at_ 0x14#5 []) = .fault (.stuckPhase 0x14#5) := by rfl

/-- R192: a reset with BUSY = 1 is refused. -/
theorem test_reset_busy : step { at_ 0x09#5 [] with schedule := [.reset] } = .refused .resetWhileBusy := by rfl

/-- A word placed by withFetchWord runs as the first instruction after reset. -/
theorem test_fetch_word_runs : step (State.reset.withFetchWord 8 0x0F) =
    exec .critExit { State.reset with ph := 0x0F#5 } := by rfl

/-! ### The surrounding software -/

/-- V4a, T65c. -/
theorem test_integer_variant : extractData 0#1 #v[25, 7, 60, 9, 101] = ⟨600, 250⟩ := by decide

/-- T62, T65. -/
theorem test_fixed_variant : extractData 1#1 #v[0x02, 0x8C, 0x80, 0x65, 0x73] = ⟨-101, 652⟩ ∧
    extractData 1#1 #v[0xFF, 0xFF, 0xFF, 0xFF, 0xFC] = ⟨-32767, 65535⟩ := by decide

/-- T66a to T66c. -/
theorem test_update_policy : (ManagedDevice.new (at_ 0 []) 0).mustRead 0 = true ∧
    { ManagedDevice.new (at_ 0 []) 0 with lastSuccess := some 0 }.mustRead 1000 = false ∧
    { ManagedDevice.new (at_ 0 []) 0 with lastSuccess := some 0 }.mustRead 2000 = true := by decide

/-! ### Witnesses: states and operands that meet each statement's hypotheses -/

theorem witness_PinGetTakesTheNextAnswer :
    (∃ s : State, ∃ b rest, s.answers = b :: rest) ∧ ∃ s : State, s.answers = [] :=
  ⟨⟨at_ 1 [0#1], _, _, rfl⟩, at_ 1 [], rfl⟩

/-- For the second clauses of GuardDrivesHighAndSettles, CommitPublishesTheBuffer and
RestoreDrivesTheSavedLevel. -/
theorem witness_phase_entered :
    (∃ (i : Instr) (s t : State), exec i s = .next t ∧ s.ph ≠ 0x02#5 ∧ t.ph = 0x02#5) ∧
    (∃ (i : Instr) (s t : State), exec i s = .next t ∧ s.ph ≠ 0x12#5 ∧ t.ph = 0x12#5) ∧
    (∃ (i : Instr) (s t : State), exec i s = .next t ∧ s.ph ≠ 0x13#5 ∧ t.ph = 0x13#5) ∧
    (∃ (i : Instr) (s t : State), exec i s = .next t ∧ s.ph ≠ 0x00#5 ∧ t.ph = 0x00#5) :=
  ⟨⟨.guardGet, at_ 1 [0], _, rfl, by decide, by decide⟩, ⟨.check, at_ 17 [], _, rfl, by decide, by decide⟩,
    ⟨.commit, at_ 18 [], _, rfl, by decide, by decide⟩, ⟨.restore, at_ 19 [], _, rfl, by decide, by decide⟩⟩

theorem witness_HandshakeIsFiveEvents : ∃ s : State, s.HostQuiet ∧ s.ph = 0x04#5 :=
  ⟨at_ 0x04#5 [], rfl, rfl⟩

theorem witness_TransmissionWaitTick :
    (∃ s : State, s.pinAnswer ≠ 1#1 ∧ s.cnt ≠ s.params.timeout) ∧
    (∃ s : State, s.pinAnswer ≠ 1#1 ∧ s.cnt = s.params.timeout) ∧
    (∃ s : State, s.pinAnswer = 1#1 ∧ s.cnt + 1 = s.params.timeout) ∧
    (∃ s : State, s.pinAnswer = 1#1 ∧ s.cnt + 1 ≠ s.params.timeout) ∧
    (∃ s : State, s.pinAnswer ≠ 0#1 ∧ s.cnt ≠ s.params.timeout) ∧
    (∃ s : State, s.pinAnswer = 0#1 ∧ s.cnt + 1 = s.params.timeout) ∧
    (∃ s : State, s.pinAnswer = 0#1 ∧ s.cnt + 1 ≠ s.params.timeout) :=
  ⟨⟨{ at_ 9 [0#1] with cnt := 3 }, by decide⟩, ⟨{ at_ 9 [0#1] with cnt := 4 }, by decide⟩,
    ⟨{ at_ 9 [1#1] with cnt := 3 }, by decide⟩, ⟨{ at_ 9 [1#1] with cnt := 2 }, by decide⟩,
    ⟨at_ 10 [1#1], by decide⟩, ⟨{ at_ 10 [0#1] with cnt := 3 }, by decide⟩,
    ⟨{ at_ 10 [0#1] with cnt := 2 }, by decide⟩⟩

theorem witness_RxLowTick :
    (∃ s : State, s.idx.toNat < 80 ∧ s.pinAnswer ≠ 0#1) ∧
    (∃ s : State, s.idx.toNat < 80 ∧ s.pinAnswer = 0#1 ∧ s.cnt + 1 = s.params.timeout) ∧
    (∃ s : State, s.idx.toNat < 80 ∧ s.pinAnswer = 0#1 ∧ s.cnt + 1 ≠ s.params.timeout) :=
  ⟨⟨{ at_ 13 [1#1] with idx := 79 }, by decide⟩, ⟨{ at_ 13 [0#1] with cnt := 3, idx := 78 }, by decide⟩,
    ⟨at_ 13 [0#1], by decide⟩⟩

theorem witness_RxHighTick :
    (∃ s : State, s.pinAnswer ≠ 1#1 ∧ s.idx.toNat = 79) ∧
    (∃ s : State, s.pinAnswer ≠ 1#1 ∧ s.idx.toNat < 80 ∧ s.idx.toNat ≠ 79) ∧
    (∃ s : State, s.pinAnswer = 1#1 ∧ s.cnt + 1 = s.params.timeout ∧ s.idx.toNat = 79) ∧
    (∃ s : State, s.pinAnswer = 1#1 ∧ s.cnt + 1 = s.params.timeout ∧ s.idx.toNat < 80 ∧
      s.idx.toNat ≠ 79) ∧
    (∃ s : State, s.idx.toNat < 80 ∧ s.pinAnswer = 1#1 ∧ s.cnt + 1 ≠ s.params.timeout) :=
  ⟨⟨{ at_ 14 [0#1] with idx := 79 }, by decide⟩, ⟨{ at_ 14 [0#1] with idx := 78 }, by decide⟩,
    ⟨{ at_ 14 [1#1] with idx := 79, cnt := 3 }, by decide⟩,
    ⟨{ at_ 14 [1#1] with idx := 77, cnt := 3 }, by decide⟩, ⟨at_ 14 [1#1], by decide⟩⟩

theorem witness_ReceptionStopsOutsideTheSlots : ∃ s : State, 80 ≤ s.idx.toNat :=
  ⟨{ at_ 13 [] with idx := 80 }, by decide⟩

theorem witness_AckWaitCountsTheRun :
    (∃ s : State, s.HostQuiet ∧ s.ph = 0x09#5 ∧ s.cnt = 0 ∧ 1 ≤ s.params.timeout ∧
      3 < s.params.timeout ∧ s.answers = List.replicate 3 1#1 ++ ~~~1#1 :: []) ∧
    (∃ s : State, s.HostQuiet ∧ s.ph = 0x0A#5 ∧ s.cnt = 0 ∧ 1 ≤ s.params.timeout ∧
      4 = s.params.timeout ∧ s.answers = List.replicate 4 0#1 ++ [1#1]) :=
  ⟨⟨at_ 9 [1, 1, 1, 0], rfl, rfl, rfl, by decide, by decide, by decide⟩,
    ⟨at_ 10 [0, 0, 0, 0, 1], rfl, rfl, rfl, by decide, by decide, by decide⟩⟩

theorem witness_ReceptionWaitStoresTheRun :
    (∃ s : State, s.HostQuiet ∧ s.cnt = 0 ∧ 1 ≤ s.params.timeout ∧ s.ph = 0x0D#5 ∧ s.idx.toNat < 80 ∧
      0 < s.params.timeout ∧ s.answers = List.replicate 0 0#1 ++ ~~~0#1 :: []) ∧
    (∃ s : State, s.HostQuiet ∧ s.cnt = 0 ∧ 1 ≤ s.params.timeout ∧ s.ph = 0x0E#5 ∧ s.idx.toNat < 79 ∧
      4 = s.params.timeout ∧ s.answers = List.replicate 4 1#1 ++ [0#1]) :=
  ⟨⟨{ at_ 13 [1] with idx := 79 }, rfl, rfl, by decide, rfl, by decide, by decide, by decide⟩,
    ⟨{ at_ 14 [1, 1, 1, 1, 0] with idx := 78 }, rfl, rfl, by decide, rfl, by decide, by decide, by decide⟩⟩

theorem witness_SliceTestsTheSentinelFirst :
    (∃ s : State, ∃ j : Fin 80, s.raw[j] = s.params.timeout) ∧
    (∃ s : State, ∀ j : Fin 80, s.raw[j] ≠ s.params.timeout) :=
  ⟨⟨{ at_ 16 [] with raw := (Vector.replicate 80 0).setIfInBounds 79 4 }, 79, by decide⟩,
    ⟨at_ 16 [], by decide⟩⟩

theorem witness_SliceComparesEachPair :
    ∃ s t : State, (∀ j : Fin 80, s.raw[j] ≠ s.params.timeout) ∧ exec .slice s = .next t :=
  ⟨at_ 16 [], _, by decide, rfl⟩

theorem witness_SlicerComparesOnlyWithinAPair :
    (∃ c : Nat, 0 < c) ∧
    (∃ (raw raw' : Vector Nat 80) (d : Fin 40 → Nat),
      ∀ i, lowCount raw' i = lowCount raw i + d i ∧ highCount raw' i = highCount raw i + d i) ∧
    (∃ (raw raw' : Vector Nat 80) (i : Fin 40), lowCount raw' i ≤ lowCount raw i ∧
      highCount raw i ≤ highCount raw' i ∧ frameBit raw i = 1#1) ∧
    (∃ (raw : Vector Nat 80) (i : Fin 40), highCount raw i = lowCount raw i) :=
  ⟨⟨3, by decide⟩, ⟨Vector.replicate 80 1, Vector.replicate 80 3, fun _ => 2, by decide⟩,
    ⟨sample [1], sample [1], 0, by decide⟩, ⟨Vector.replicate 80 1, 39, by decide⟩⟩

theorem witness_CheckComparesTheSumModulo256 :
    (∃ s : State, s.buf[4].toNat =
      (s.buf[0].toNat + s.buf[1].toNat + s.buf[2].toNat + s.buf[3].toNat) % 256) ∧
    (∃ s : State, s.buf[4].toNat ≠
      (s.buf[0].toNat + s.buf[1].toNat + s.buf[2].toNat + s.buf[3].toNat) % 256) :=
  ⟨⟨{ at_ 17 [] with buf := #v[0xFF, 0xFF, 0xFF, 0xFF, 0xFC] }, by decide⟩,
    ⟨{ at_ 17 [] with buf := #v[0xFF, 0xFF, 0xFF, 0xFF, 0xFF] }, by decide⟩⟩

/-- In IDLE, with the host about to write `byte` to CTRL. -/
def hostWrites (n : HostReg) (byte : Byte) (ph : PhaseCode) : State :=
  { at_ ph [] with schedule := [.regWrite n byte] }

theorem witness_IdleIsLeftOnlyByStart :
    ∃ s t : State, s.ph = 0x00#5 ∧ step s = .next t ∧ t.ph ≠ 0x00#5 :=
  ⟨hostWrites 0 1 0, _, rfl, rfl, by decide⟩

theorem witness_StartBeginsARead : ∃ s : State, s.ph = 0x00#5 := ⟨at_ 0 [], rfl⟩

theorem witness_HostStartWriteStartsARead :
    ∃ (s : State) (byte : Byte) (rest : List Turn), s.ph = 0x00#5 ∧
      s.schedule = .regWrite 0#3 byte :: rest ∧ byte.getLsbD 0 = true :=
  ⟨hostWrites 0 0xFF 0, 0xFF, [], rfl, rfl, by decide⟩

theorem witness_IgnoredCtrlWrites :
    (∃ s : State, s.ph ≠ 0x00#5) ∧
    (∃ (s : State) (byte : Byte) (rest : List Turn), s.schedule = .regWrite 0#3 byte :: rest ∧
      s.ph ≠ 0x00#5) ∧
    (∃ (s : State) (byte : Byte) (rest : List Turn), s.schedule = .regWrite 0#3 byte :: rest ∧
      byte.getLsbD 0 = false) :=
  ⟨⟨at_ 9 [], by decide⟩, ⟨hostWrites 0 3 9, 3, [], rfl, by decide⟩,
    ⟨hostWrites 0 0xFE 0, 0xFE, [], rfl, by decide⟩⟩

theorem witness_WritesToOtherRegistersAreIgnored :
    ∃ (s : State) (n : HostReg) (v : Byte) (rest : List Turn),
      s.schedule = .regWrite n v :: rest ∧ n ≠ 0#3 :=
  ⟨hostWrites 7 0x55 0, 7, 0x55, [], rfl, by decide⟩

theorem witness_HostReads :
    ∃ (s : State) (n : HostReg) (rest : List Turn), s.schedule = .regRead n :: rest :=
  ⟨{ at_ 0 [] with schedule := [.regRead 7] }, 7, [], rfl⟩

theorem witness_DecodeOfEncode : ∃ i : Instr, i.wf = true := ⟨.start 1 0x3F, rfl⟩

theorem witness_EncodeOfDecode : ∃ (w : CodeWord) (i : Instr), decode w = .ok i :=
  ⟨.ctrl 0xFF, _, rfl⟩

theorem witness_StepRunsTheDecodedInstruction :
    (∃ (s : State) (i : Instr), s.nextTurn = .sequencer ∧ decode (.phase s.ph) = .ok i) ∧
    (∃ (s : State) (i : Instr) (byte : Byte), s.nextTurn = .regWrite 0#3 byte ∧
      decode (.ctrl byte) = .ok i) :=
  ⟨⟨at_ 0x13 [], .restore, rfl, rfl⟩, ⟨hostWrites 0 3 0, .start 1 0, 3, rfl, rfl⟩⟩

theorem witness_ReservedPhaseIsStuck :
    (∃ c : PhaseCode, 20 ≤ c.toNat) ∧ (∃ s : State, 20 ≤ s.ph.toNat ∧ s.nextTurn = .sequencer) ∧
    (∃ s t : State, 20 ≤ s.ph.toNat ∧ step s = .next t) ∧
    (∃ s t : State, s.ph.toNat < 20 ∧ step s = .next t) :=
  ⟨⟨0x14, by decide⟩, ⟨at_ 0x14 [], by decide, rfl⟩, ⟨hostWrites 0 1 0x1F, _, by decide, rfl⟩,
    ⟨at_ 0x13 [], _, by decide, rfl⟩⟩

theorem witness_SuccessorsFollowTheTable :
    ∃ (s t : State) (i : Instr), decode (.phase s.ph) = .ok i ∧ exec i s = .next t :=
  ⟨at_ 0x13 [], _, .restore, rfl, rfl⟩

/-- For PortOperationOfEachInstruction, RegistersHaveTheirWriters and, with `i ≠ .hsHold`,
VariantOnlySelectsTheHold (its first and its second clause). -/
theorem witness_exec_next :
    (∃ (i : Instr) (s t : State), i ≠ .hsHold ∧ exec i s = .next t ∧ (∃ w r, i = .start w r) ∧
      s.ph = 0x00#5) ∧
    (∃ (i : Instr) (s t : State), i ≠ .hsHold ∧ exec i s = .next t ∧
      ¬ ((∃ w r, i = .start w r) ∧ s.ph = 0x00#5)) :=
  ⟨⟨.start 1 0, at_ 0 [], _, by decide, rfl, ⟨_, _, rfl⟩, rfl⟩,
    ⟨.restore, at_ 0x13 [], _, by decide, rfl, fun h => nomatch h.1⟩⟩

theorem witness_ResultCodeWriters :
    ∃ (i : Instr) (s t : State), exec i s = .next t ∧ t.res ≠ s.res :=
  ⟨.commit, at_ 0x12 [], _, rfl, by decide⟩

theorem witness_FailIsPrecise :
    (∃ s t : State, exec .ack1 s = .next t ∧ s.ph ≠ 0x13#5 ∧ t.ph = 0x13#5) ∧
    (∃ s t : State, exec .slice s = .next t ∧ s.ph ≠ 0x13#5 ∧ t.ph = 0x13#5) ∧
    (∃ s t : State, exec .check s = .next t ∧ s.ph ≠ 0x13#5 ∧ t.ph = 0x13#5) :=
  ⟨⟨{ at_ 9 [1] with cnt := 3 }, _, rfl, by decide, by decide⟩,
    ⟨{ at_ 16 [] with raw := (Vector.replicate 80 0).setIfInBounds 79 4 }, _, rfl, by decide, by decide⟩,
    ⟨{ at_ 17 [] with buf := #v[0, 0, 0, 0, 1] }, _, rfl, by decide, by decide⟩⟩

/-- A state with the invariant of R36, in IDLE after a failed read. -/
def idleAfterFailure : State := { at_ 0 [] with res := 2 }

theorem idleAfterFailure_inv : idleAfterFailure.Inv := by
  constructor <;> decide

/-- A state with the invariant, at the start of a read. -/
def readBegins : State := at_ 1 []

theorem readBegins_inv : readBegins.Inv := by
  constructor <;> decide

/-- For StatusValues, InvariantIsKept, CountsFitTheCounter, OnlyValidatedBytesReachTheHost and
OutValidIsSetByCommitForEver. -/
theorem witness_inv_step :
    ∃ s t : State, s.Inv ∧ step s = .next t ∧ s.nextTurn ≠ .reset :=
  ⟨idleAfterFailure, _, idleAfterFailure_inv, rfl, by decide⟩

theorem witness_FailedReadKeepsTheLastGoodBytes :
    ∃ (s t : State) (k : Nat), s.Inv ∧ s.HostQuiet ∧ s.ph = 0x01#5 ∧ runSteps k s = .next t ∧
      t.res ≠ 1#3 :=
  ⟨readBegins, _, 1, readBegins_inv, rfl, rfl, rfl, by decide⟩

theorem witness_NothingIsStuckUnderTheInvariant :
    (∃ s : State, s.Inv ∧ (s.nextTurn ≠ .reset ∨ s.ph = 0x00#5)) ∧
    (∃ s : State, s.Inv ∧ s.nextTurn = .reset ∧ s.ph ≠ 0x00#5) :=
  ⟨⟨idleAfterFailure, idleAfterFailure_inv, by decide⟩,
    ⟨{ readBegins with schedule := [.reset] }, by constructor <;> decide, rfl, by decide⟩⟩

theorem witness_GuardPortStaysBalanced :
    ∃ s t : State, s.Inv ∧ s.GuardBalanced ∧ step s = .next t :=
  ⟨readBegins, _, readBegins_inv, rfl, rfl⟩

theorem witness_LineIsRestoredOnEveryExit :
    ∃ s t : State, s.ph = 0x13#5 ∧ s.LineRestored ∧ step s = .next t :=
  ⟨at_ 0x13 [], _, rfl, fun _ => .inl rfl, rfl⟩

theorem witness_EveryReadEnds : ∃ s : State, s.Inv ∧ s.HostQuiet ∧ s.ph = 0x01#5 :=
  ⟨readBegins, readBegins_inv, rfl, rfl⟩

/-- Every wait at its first tick, but for the high phase of the last bit, which may last. -/
def toggling (last : Nat) (i : Fin 40) : Nat := if i.val = 39 then last else 0

/-- The frame of R115 for given counts. -/
def frameAnswers (low high : Fin 40 → Nat) : List Level :=
  (List.finRange 40).flatMap fun i =>
    List.replicate (low i) 0#1 ++ 1#1 :: (List.replicate (high i) 1#1 ++ [0#1])

theorem witness_ReceptionRecordsTheFrame :
    ∃ (s : State) (low high : Fin 40 → Nat) (rest : List Level),
      s.HostQuiet ∧ s.ph = 0x0C#5 ∧ s.cnt = 0 ∧ 1 ≤ s.params.timeout ∧
      (∀ i, low i < s.params.timeout ∧ high i < s.params.timeout) ∧
      s.answers = frameAnswers low high ++ rest :=
  ⟨at_ 12 (frameAnswers (toggling 0) (toggling 3) ++ [1]), toggling 0, toggling 3, [1],
    rfl, rfl, rfl, by decide, by decide, rfl⟩

/-- T84's all-zero frame, which is valid, and the frame whose last bit alone is 1, which is not. -/
theorem witness_FrameIsDeliveredOrRejected :
    (∃ (low high : Fin 40 → Nat) (b : Vector Byte 5), (∀ i, low i < 4 ∧ high i < 4) ∧
      (∀ (k : Fin 5) (j : Fin 8), b[k].getLsbD (7 - j.val) =
        decide (high ⟨8 * k.val + j.val, by omega⟩ > low ⟨8 * k.val + j.val, by omega⟩)) ∧
      b[4] = b[0] + b[1] + b[2] + b[3]) ∧
    (∃ (low high : Fin 40 → Nat) (b : Vector Byte 5), (∀ i, low i < 4 ∧ high i < 4) ∧
      (∀ (k : Fin 5) (j : Fin 8), b[k].getLsbD (7 - j.val) =
        decide (high ⟨8 * k.val + j.val, by omega⟩ > low ⟨8 * k.val + j.val, by omega⟩)) ∧
      b[4] ≠ b[0] + b[1] + b[2] + b[3]) :=
  ⟨⟨toggling 0, toggling 0, #v[0, 0, 0, 0, 0], by decide, by decide, by decide⟩,
    ⟨toggling 0, toggling 1, #v[0, 0, 0, 0, 1], by decide, by decide, by decide⟩⟩

theorem witness_ResetTurn :
    (∃ s : State, s.nextTurn = .reset ∧ s.ph = 0x00#5) ∧
    (∃ s : State, s.nextTurn = .reset ∧ s.ph ≠ 0x00#5) :=
  ⟨⟨{ at_ 0 [] with schedule := [.reset] }, rfl, rfl⟩,
    ⟨{ at_ 0x13 [] with schedule := [.reset] }, rfl, by decide⟩⟩

theorem witness_HostLearnsTheResult :
    (∃ s : State, s.ph = 0x00#5 ∧ s.res = 1#3) ∧ (∃ s : State, s.ph = 0x00#5 ∧ s.res = 2#3) ∧
    (∃ s : State, s.ph = 0x00#5 ∧ s.res = 3#3) ∧ (∃ s : State, s.ph = 0x00#5 ∧ s.res = 4#3) ∧
    (∃ s : State, s.ph = 0x00#5 ∧ s.res = 0#3) :=
  ⟨⟨{ at_ 0 [] with res := 1 }, rfl, rfl⟩, ⟨{ at_ 0 [] with res := 2 }, rfl, rfl⟩,
    ⟨{ at_ 0 [] with res := 3 }, rfl, rfl⟩, ⟨{ at_ 0 [] with res := 4 }, rfl, rfl⟩, ⟨at_ 0 [], rfl, rfl⟩⟩

/-! ### The host's protocol (R145) and the software over it -/

/-- In IDLE after a failed read, with TIMEOUT = 1. -/
def shortIdle : State := { at_ 0 [] with res := 2, params := { timeout := 1, cw := 1 } }

theorem shortIdle_inv : shortIdle.Inv := by
  constructor <;> decide

/-- The same with answers to come. -/
def shortBlock (answers : List Level) : State := { shortIdle with answers := answers }

theorem shortBlock_inv (answers : List Level) : (shortBlock answers).Inv :=
  { shortIdle_inv with }

/-- The levels of a read that ends with the five bytes 0: T84's frame, after the guard and the three
acknowledgements. -/
def zeroFrame : List Level := [1, 0, 1, 0] ++ frameAnswers (toggling 0) (toggling 0)

/-- A read of a dead line returns its error, and the write of CTRL is 0x03 (R145, T70). -/
theorem test_protocol_no_signal :
    (match performRead 1 (shortBlock [1, 1]) [0, 0, 8] with
      | .next (.returned (r, t) _) => some (r, t.hostLog)
      | _ => none) =
    some (.error .noSignal, [.read 1 0x20, .wrote 0 0x03, .read 1 0x20]) := by decide

/-- STATUS is read until BUSY = 0 (R145): after 7 of the read's 8 steps it is still 1. -/
theorem test_protocol_polls :
    (match performRead 0 (shortBlock [1, 1]) [0, 0, 7, 1] with
      | .next (.returned (_, t) _) => some t.hostLog
      | _ => none) =
    some [.read 1 0x20, .wrote 0 0x01, .read 1 0x21, .read 1 0x20] := by decide

/-- For ReadProtocolReturnsTheResult; begun in IDLE and with an error. -/
theorem witness_ReadProtocolReturnsTheResult :
    ∃ (s t : State) (v : Flag) (gaps rest : List Nat) (k : ErrorKind), s.Inv ∧ s.ph = 0x00#5 ∧
      performRead v s gaps = .next (.returned (.error k, t) rest) :=
  ⟨shortBlock [1, 1], _, 1, [0, 0, 8], _, _, shortBlock_inv _, rfl, rfl⟩

theorem witness_ReadProtocolEnds :
    ∃ (s : State) (k : Nat) (gaps : List Nat), s.Inv ∧ s.ph = 0x00#5 ∧
      14 + 83 * s.params.timeout ≤ k ∧ 5 ≤ gaps.length :=
  ⟨shortBlock [], 97, [0, 0, 0, 0, 0], shortBlock_inv _, rfl, by decide, by decide⟩

theorem witness_MeasurementsIsOneFullRead :
    ∃ (d d' : Device) (gaps rest : List Nat) (reply : Reply Measurement), d.block.Inv ∧
      d.measurements gaps = .next (.returned (reply, d') rest) :=
  ⟨Device.new (shortBlock [1, 1]) 1, _, [0, 0, 8], _, _, shortBlock_inv _, rfl⟩

theorem witness_ReadMeasurementsForcesARead :
    ∃ (m m' : ManagedDevice) (gaps rest : List Nat) (reply : Reply Unit), m.device.block.Inv ∧
      m.readMeasurements 0 gaps = .next (.returned (reply, m') rest) :=
  ⟨ManagedDevice.new (shortBlock [1, 1]) 1, _, [0, 0, 8], _, _, shortBlock_inv _, rfl⟩

/-- Whether a call has returned a value. -/
def returnsValue (c : Call (Reply Measurement × ManagedDevice)) : Bool :=
  match c with
  | .next (.returned (.value _, _) _) => true
  | _ => false

theorem returnsValue_exists {c : Call (Reply Measurement × ManagedDevice)} (h : returnsValue c = true) :
    ∃ x m' rest, c = .next (.returned (.value x, m') rest) := by
  unfold returnsValue at h
  split at h
  · exact ⟨_, _, _, rfl⟩
  · cases h

/-- A read of the all-zero frame of T84 succeeds. -/
theorem zeroFrame_succeeds : returnsValue (ManagedDevice.measurements 0 [0, 0, 95, 0, 0, 0, 0, 0]
    (ManagedDevice.new (shortBlock zeroFrame) 1)) = true := by decide +kernel

/-- The first clause at both sides of the interval (the one witness that runs a whole read, T84's), the second
and the third. -/
theorem witness_ManagedDeviceCachesWithinTheInterval :
    (∃ (m m' : ManagedDevice) (gaps rest : List Nat) (x : Measurement), m.mustRead 0 = true ∧
      m.measurements 0 gaps = .next (.returned (.value x, m') rest) ∧
      1999 - 0 < m.policy.interval ∧ m.policy.interval ≤ 2000 - 0) ∧
    (∃ (m m' : ManagedDevice) (gaps rest : List Nat) (e : CallError), m.mustRead 0 = true ∧
      m.measurements 0 gaps = .next (.returned (.error e, m') rest)) ∧
    (∃ m : ManagedDevice, m.mustRead 0 = false) :=
  ⟨let ⟨x, m', rest, h⟩ := returnsValue_exists zeroFrame_succeeds;
      ⟨_, m', _, rest, x, by decide, h, by decide, by decide⟩,
    ⟨ManagedDevice.new (shortBlock [1, 1]) 1, _, [0, 0, 8], _, _, by decide, rfl⟩,
    ⟨{ ManagedDevice.new (shortBlock []) 1 with lastSuccess := some 0 }, by decide⟩⟩

end Sys2Proof.Tests
end

section
/-! SUPPORT. The invariant of 10_state.md R36 under each state operation, under each instruction in its own
phase, and under a step (O41). -/

namespace Sys2Proof.Machine

variable {s t : State} {c : PhaseCode}

/-! What the invariant says of the registers in a phase. -/

/-- The phases of a read before COMMIT that ask nothing of RAW and lie outside the critical section: for them
R36 asks of the registers only RES = NONE, CRIT = 0 and, but for a wait, CNT = 0. -/
abbrev PlainPhase (c : PhaseCode) : Prop :=
  1 ≤ c.toNat ∧ c.toNat < 0x12 ∧ c ∉ [Phase.rxLow, Phase.rxHigh, Phase.critExit, Phase.slice]

theorem PlainPhase.not_critical (hc : PlainPhase c) : c ∉ [Phase.rxLow, Phase.rxHigh, Phase.critExit] :=
  fun hm => hc.2.2 (by simp at hm ⊢; tauto)

theorem State.Inv.cnt_eq_zero (h : s.Inv) (hp : s.ph ∉ waitPhases) : s.cnt = 0 :=
  by_contra fun hn => hp (h.cnt_wait hn)

theorem State.Inv.crit_ne_one (h : s.Inv) (hp : s.ph ∉ [Phase.rxLow, Phase.rxHigh, Phase.critExit]) :
    s.crit ≠ 1 :=
  fun hn => hp (h.crit_iff.mp hn)

theorem State.Inv.res_eq_none (h : s.Inv) (hp : PlainPhase s.ph) : s.res = Res.none :=
  h.active_res hp.1 hp.2.1.le

/-! Writers that keep the invariant where they stand. -/

/-- A port operation is recorded, which only IDLE would notice. -/
theorem State.Inv.emit (h : s.Inv) (e : PortEvent) (hp : s.ph ≠ Phase.idle) : (s.emit e).Inv :=
  { h with idle_res := fun hi => absurd hi hp }

theorem State.Inv.afterPinGet (h : s.Inv) (hp : s.ph ≠ Phase.idle) : s.afterPinGet.Inv :=
  { h with idle_res := fun hi => absurd hi hp }

theorem State.Inv.setOrig (h : s.Inv) (b : Flag) : (s.setOrig b).Inv :=
  { h with }

theorem State.Inv.setCnt (h : s.Inv) {n : Nat} (hn : n < s.params.timeout) (hw : n ≠ 0 → s.ph ∈ waitPhases) :
    (s.setCnt n).Inv :=
  { h with cnt_lt := hn, cnt_wait := hw }

theorem State.Inv.setCnt_zero (h : s.Inv) : (s.setCnt 0).Inv :=
  h.setCnt h.params_wf.1 (fun h0 => absurd rfl h0)

theorem State.Inv.setBuf (h : s.Inv) (b : Vector Byte 5) (hp : s.ph ≠ Phase.commit) : (s.setBuf b).Inv :=
  { h with buf_sum := fun hc => absurd hc hp }

/-- COMMIT publishes a BUF that satisfies the checksum (R132, R133). -/
theorem State.Inv.publish (h : s.Inv) (hp : s.ph = Phase.commit) :
    ((s.setOut s.buf).setOutValid 1).Inv :=
  { h with
    idle_valid := fun hi => absurd (hp.symm.trans hi) (by decide)
    ok_valid := fun _ => rfl
    out_sum := fun _ => h.buf_sum hp }

/-! Transfers of PH. Each proof gives the clauses the new phase asks for; the clauses left as `?_` speak of
other phases, and `simp` sees that from the new PH. -/

theorem State.Inv.setPh_plain (h : s.Inv) (hc : PlainPhase c) (hcnt : s.cnt = 0) (hcrit : s.crit ≠ 1)
    (hres : s.res = Res.none) : (s.setPh c).Inv := by
  have hne : ∀ d, ¬ PlainPhase d → c ≠ d := fun d hd hcd => hd (hcd ▸ hc)
  have hraw : c ∉ [Phase.critExit, Phase.slice] := fun hm => hc.2.2 (by simp at hm ⊢; tauto)
  have hrx : c ∉ [Phase.rxLow, Phase.rxHigh] := fun hm => hc.2.2 (by simp at hm ⊢; tauto)
  exact { h with
    ph_legal := hc.2.1.trans (by decide)
    cnt_wait := fun hn => absurd hcnt hn
    crit_iff := iff_of_false hcrit hc.not_critical
    idx_even := fun hp => absurd hp (hne _ (by decide))
    idx_odd := fun hp => absurd hp (hne _ (by decide))
    idle_res := fun hp => absurd hp (hne _ (by decide))
    idle_valid := fun hp => absurd hp (hne _ (by decide))
    active_res := fun _ _ => hres
    restore_res := fun hp => absurd hp (hne _ (by decide))
    buf_sum := fun hp => absurd hp (hne _ (by decide))
    raw_filled := fun hp => absurd hp hrx
    raw_all := fun hp => absurd hp hraw }

/-- From one plain phase to another, when no wait is counting. -/
theorem State.Inv.setPh_of_plain (h : s.Inv) (hp : PlainPhase s.ph) (hc : PlainPhase c) (hcnt : s.cnt = 0) :
    (s.setPh c).Inv :=
  h.setPh_plain hc hcnt (h.crit_ne_one hp.not_critical) (h.res_eq_none hp)

/-- The micro-operations that are one port operation and a transfer. -/
theorem State.Inv.emit_setPh (h : s.Inv) (e : PortEvent) (hp : PlainPhase s.ph) (hw : s.ph ∉ waitPhases)
    (hc : PlainPhase c) : ((s.emit e).setPh c).Inv :=
  (h.emit e fun hi => absurd (hi ▸ hp) (by decide)).setPh_of_plain hp hc (h.cnt_eq_zero hw)

theorem State.Inv.setPh_commit (h : s.Inv) (hcnt : s.cnt = 0) (hcrit : s.crit ≠ 1) (hres : s.res = Res.none)
    (hbuf : s.buf[4] = checksum s.buf) : (s.setPh Phase.commit).Inv := by
  refine { h with
    ph_legal := ?_, cnt_wait := ?_, idx_even := ?_, idx_odd := ?_, idle_res := ?_,
    idle_valid := ?_, restore_res := ?_, raw_filled := ?_, raw_all := ?_
    active_res := fun _ _ => hres
    crit_iff := iff_of_false hcrit (by simp)
    buf_sum := fun _ => hbuf } <;> simp [hcnt]

/-- A read ends with a result: RES is written and the line is restored next (R132, R173). -/
theorem State.Inv.setRes_setPh_restore (h : s.Inv) {r : ResCode} (hcnt : s.cnt = 0) (hcrit : s.crit ≠ 1)
    (hr : r ≠ Res.none) (hlegal : r.toNat ≤ 4) (hok : r = Res.ok → s.outValid = 1) :
    ((s.setRes r).setPh Phase.restore).Inv := by
  refine { h with
    ph_legal := ?_, cnt_wait := ?_, idx_even := ?_, idx_odd := ?_, idle_res := ?_,
    idle_valid := ?_, active_res := ?_, buf_sum := ?_, raw_filled := ?_, raw_all := ?_
    restore_res := fun _ => hr
    res_legal := hlegal
    crit_iff := iff_of_false hcrit (by simp)
    ok_valid := hok } <;> simp [hcnt]

theorem State.Inv.fail (h : s.Inv) (k : ErrorKind) (hcnt : s.cnt = 0) (hcrit : s.crit ≠ 1) :
    (s.fail k).Inv :=
  h.setRes_setPh_restore hcnt hcrit (by cases k <;> decide) (by cases k <;> decide)
    (fun hok => absurd hok (by cases k <;> decide))

theorem State.Inv.restoreLine (h : s.Inv) (hp : s.ph = Phase.restore) : s.restoreLine.Inv := by
  have hres : s.res ≠ Res.none := h.restore_res hp
  have hcnt : s.cnt = 0 := h.cnt_eq_zero (by simp [hp])
  have hcrit : s.crit ≠ 1 := h.crit_ne_one (by simp [hp])
  refine { h with
    ph_legal := ?_, cnt_wait := ?_, idx_even := ?_, idx_odd := ?_, active_res := ?_,
    restore_res := ?_, buf_sum := ?_, raw_filled := ?_, raw_all := ?_
    idle_res := fun _ => .inl hres
    crit_iff := iff_of_false hcrit (by simp)
    idle_valid := fun _ hn => absurd hn hres } <;> simp [hcnt]

/-! The critical section. -/

theorem State.Inv.execCritEnter (h : s.Inv) (hp : s.ph = Phase.critEnter) :
    ((((s.emit .critEnter).setCrit 1).setIdx 0).setPh Phase.rxLow).Inv := by
  have hres : s.res = Res.none := h.res_eq_none (by rw [hp]; decide)
  refine { h with
    ph_legal := ?_, cnt_wait := ?_, crit_iff := ?_, idx_even := ?_, idx_odd := ?_, idx_le := ?_,
    idle_res := ?_, idle_valid := ?_, restore_res := ?_, buf_sum := ?_, raw_filled := ?_, raw_all := ?_
    active_res := fun _ _ => hres } <;> simp

theorem State.Inv.execCritExit (h : s.Inv) (hp : s.ph = Phase.critExit) :
    (((s.emit .critExit).setCrit 0).setPh Phase.slice).Inv := by
  have hres : s.res = Res.none := h.active_res (by simp [hp]) (by simp [hp])
  have hcnt : s.cnt = 0 := h.cnt_eq_zero (by simp [hp])
  refine { h with
    ph_legal := ?_, cnt_wait := ?_, crit_iff := ?_, idx_even := ?_, idx_odd := ?_,
    idle_res := ?_, idle_valid := ?_, restore_res := ?_, buf_sum := ?_, raw_filled := ?_
    active_res := fun _ _ => hres
    raw_all := fun _ => h.raw_all (by simp [hp]) } <;> simp [hcnt]

/-- Filling slot IDX with a count up to TIMEOUT leaves every slot in CW bits (R20). -/
theorem State.Inv.setSlot_fits (h : s.Inv) {r : Nat} (hr : r ≤ s.params.timeout) (j : Fin 80) :
    (s.setSlot r).raw[j] < 2 ^ s.params.cw := by
  rw [State.setSlot_raw_get]
  split
  · exact hr.trans_lt h.params_wf.2
  · exact h.raw_fits j

/-- After filling slot IDX, the slots up to and with IDX hold counts up to TIMEOUT if those before it did. -/
theorem State.setSlot_filled {r T : Nat} (hs : ∀ j : Fin 80, j.val < s.idx.toNat → s.raw[j] ≤ T) (hr : r ≤ T)
    (j : Fin 80) (hj : j.val ≤ s.idx.toNat) : (s.setSlot r).raw[j] ≤ T := by
  rw [State.setSlot_raw_get]
  split
  · exact hr
  · exact hs j (by omega)

theorem idx_succ_toNat {k : BitVec 7} (hk : k.toNat < 79) : (k + 1).toNat = k.toNat + 1 := by
  bv_omega

/-- A reception wait ends with its slot filled, and the wait for the next slot, which IDX's parity selects,
begins (R111, R112). -/
theorem State.Inv.nextSlot (h : s.Inv) (hp : s.ph ∈ [Phase.rxLow, Phase.rxHigh]) (hcnt : s.cnt = 0) {r : Nat}
    (hr : r ≤ s.params.timeout) (hlt : s.idx.toNat < 79) (hc : c ∈ [Phase.rxLow, Phase.rxHigh])
    (heven : c = Phase.rxLow → s.idx.toNat % 2 = 1) (hodd : c = Phase.rxHigh → s.idx.toNat % 2 = 0) :
    (((s.setSlot r).setIdx (s.idx + 1)).setPh c).Inv := by
  have hne : ∀ d, d ∉ [Phase.rxLow, Phase.rxHigh] → c ≠ d := fun d hd hcd => hd (hcd ▸ hc)
  have hphase : ∀ d ∈ [Phase.rxLow, Phase.rxHigh], d.toNat < 20 ∧ 1 ≤ d.toNat ∧ d.toNat ≤ 0x12 ∧
      d ∈ [Phase.rxLow, Phase.rxHigh, Phase.critExit] ∧ d ∉ [Phase.critExit, Phase.slice] := by decide
  obtain ⟨-, hlow, hhigh, hsect, -⟩ := hphase _ hp
  obtain ⟨hlegal, -, -, hsect', hnot⟩ := hphase _ hc
  have hres : s.res = Res.none := h.active_res hlow hhigh
  have hidx : (s.idx + 1).toNat = s.idx.toNat + 1 := idx_succ_toNat hlt
  exact { h with
    ph_legal := hlegal
    cnt_wait := fun hn => absurd hcnt hn
    crit_iff := iff_of_true (h.crit_iff.mpr hsect) hsect'
    idx_even := fun hq => by have := heven hq; simp only [State.setPh_idx, State.setIdx_idx]; omega
    idx_odd := fun hq => by have := hodd hq; simp only [State.setPh_idx, State.setIdx_idx]; omega
    idx_le := hidx.trans_le hlt
    idle_res := fun hq => absurd hq (hne _ (by decide))
    idle_valid := fun hq => absurd hq (hne _ (by decide))
    active_res := fun _ _ => hres
    restore_res := fun hq => absurd hq (hne _ (by decide))
    buf_sum := fun hq => absurd hq (hne _ (by decide))
    raw_fits := h.setSlot_fits hr
    raw_filled := fun _ j hj =>
      State.setSlot_filled (h.raw_filled hp) hr j (Nat.lt_succ_iff.mp (hj.trans_eq hidx))
    raw_all := fun hq => absurd hq hnot }

/-- The last reception wait ends with all 80 slots filled (R112, R114). -/
theorem State.Inv.lastSlot (h : s.Inv) (hp : s.ph = Phase.rxHigh) (hcnt : s.cnt = 0) {r : Nat}
    (hr : r ≤ s.params.timeout) (hlast : s.idx = 79) : ((s.setSlot r).setPh Phase.critExit).Inv := by
  have hres : s.res = Res.none := h.active_res (by simp [hp]) (by simp [hp])
  have hcrit : s.crit = 1 := h.crit_iff.mpr (by simp [hp])
  have hall : ∀ j : Fin 80, (s.setSlot r).raw[j] ≤ s.params.timeout := fun j =>
    State.setSlot_filled (h.raw_filled (by simp [hp])) hr j (by rw [hlast]; exact Nat.lt_succ_iff.mp j.isLt)
  refine { h with
    ph_legal := ?_, cnt_wait := ?_, idx_even := ?_, idx_odd := ?_, idle_res := ?_,
    idle_valid := ?_, restore_res := ?_, buf_sum := ?_, raw_filled := ?_
    active_res := fun _ _ => hres
    raw_fits := h.setSlot_fits hr
    crit_iff := iff_of_true hcrit (by simp)
    raw_all := fun _ => hall } <;> simp [hcnt]

/-! Waits. -/

/-- A tick keeps the invariant if the end of its wait does, taken with a result up to TIMEOUT and CNT
cleared. -/
theorem State.Inv.tick (h : s.Inv) (hp : s.ph ∈ waitPhases) {level : Level} {finish : Nat → State → State}
    (hf : ∀ (r : Nat) (u : State), u.Inv → u.ph = s.ph → u.cnt = 0 → r ≤ u.params.timeout →
      (finish r u).Inv) : (s.tick level finish).Inv := by
  have hpin : s.afterPinGet.Inv := h.afterPinGet fun hi => absurd hp (by rw [hi]; decide)
  have hlt := h.cnt_lt
  obtain ⟨-, ht⟩ | ⟨-, -, ht⟩ | ⟨-, hn, ht⟩ := State.tick_cases level finish s <;> rw [ht]
  · exact hf _ _ hpin.setCnt_zero rfl rfl hlt.le
  · exact hf _ _ hpin.setCnt_zero rfl rfl le_rfl
  · exact hpin.setCnt (lt_of_le_of_ne hlt hn) fun _ => hp

/-- R98 to R100. -/
theorem State.Inv.finishAck (h : s.Inv) (hp : PlainPhase s.ph) (hcnt : s.cnt = 0) (hc : PlainPhase c) (r : Nat) :
    (s.finishAck c r).Inv := by
  obtain ⟨-, ht⟩ | ⟨-, ht⟩ := State.finishAck_cases c r s <;> rw [ht]
  · exact h.fail _ hcnt (h.crit_ne_one hp.not_critical)
  · exact h.setPh_of_plain hp hc hcnt

theorem State.Inv.finishLow (h : s.Inv) (hp : s.ph = Phase.rxLow) (hcnt : s.cnt = 0) {r : Nat}
    (hr : r ≤ s.params.timeout) : (s.finishLow r).Inv := by
  have heven := h.idx_even hp
  have hle := h.idx_le
  exact h.nextSlot (by simp [hp]) hcnt hr (by omega) (by decide) (fun hq => absurd hq (by decide)) fun _ => heven

theorem State.Inv.finishHigh (h : s.Inv) (hp : s.ph = Phase.rxHigh) (hcnt : s.cnt = 0) {r : Nat}
    (hr : r ≤ s.params.timeout) : (s.finishHigh r).Inv := by
  have hodd := h.idx_odd hp
  have hle := h.idx_le
  obtain ⟨hlast, ht⟩ | ⟨hmore, ht⟩ := State.finishHigh_cases r s <;> rw [ht]
  · exact h.lastSlot hp hcnt hr hlast
  · have hlt : s.idx.toNat < 79 := lt_of_le_of_ne hle fun he => hmore (BitVec.eq_of_toNat_eq he)
    exact h.nextSlot (by simp [hp]) hcnt hr hlt (by decide) (fun _ => hodd) fun hq => absurd hq (by decide)

/-! Instructions and steps. -/

theorem State.Inv.startRead (h : s.Inv) (v : Flag) : (s.startRead v).Inv := by
  obtain ⟨hp, ht⟩ | ⟨-, ht⟩ := State.startRead_cases v s <;> rw [ht]
  · have hcrit : s.crit ≠ 1 := h.crit_ne_one (by simp [hp])
    refine { h with
      ph_legal := ?_, cnt_wait := ?_, cnt_lt := h.params_wf.1, idx_even := ?_, idx_odd := ?_,
      idx_le := ?_, idle_res := ?_, idle_valid := ?_, ok_valid := ?_, restore_res := ?_, res_legal := ?_,
      buf_sum := ?_, raw_filled := ?_, raw_all := ?_
      crit_iff := iff_of_false hcrit (by simp)
      active_res := fun _ _ => rfl } <;> simp
  · exact h

/-- A micro-operation performed in its own phase keeps the invariant. -/
theorem exec_keeps_inv {i : Instr} (h : s.Inv) (hi : decodePhase s.ph = .ok i) (he : exec i s = .next t) :
    t.Inv := by
  have hph : encode i = .phase s.ph := decodePhase_ok hi
  cases i <;> simp only [encode, CodeWord.phase.injEq, reduceCtorEq] at hph
  case idle => cases he; exact h
  case guardGet =>
    cases he
    have hp : PlainPhase s.ph := by rw [← hph]; decide
    refine ((h.afterPinGet (by simp [← hph])).setOrig _).setPh_of_plain hp ?_ (h.cnt_eq_zero (by simp [← hph]))
    split <;> decide
  case guardSet | guardSettle | hsCfgOut | hsLow | hsHold | hsHigh | hsCfgIn =>
    cases he
    exact h.emit_setPh _ (by rw [← hph]; decide) (by rw [← hph]; decide) (by decide)
  case ack1 | ack2 | ack3 =>
    cases he
    exact h.tick (by simp [← hph]) fun r u hu hup hcnt _ =>
      hu.finishAck (by rw [hup, ← hph]; decide) hcnt (by decide) r
  case critEnter => cases he; exact h.execCritEnter hph.symm
  case rxLow =>
    obtain ⟨-, rfl⟩ := State.receptionTick_next he
    exact h.tick (by simp [← hph]) fun r u hu hup hcnt hr => hu.finishLow (hup.trans hph.symm) hcnt hr
  case rxHigh =>
    obtain ⟨-, rfl⟩ := State.receptionTick_next he
    exact h.tick (by simp [← hph]) fun r u hu hup hcnt hr => hu.finishHigh (hup.trans hph.symm) hcnt hr
  case critExit => cases he; exact h.execCritExit hph.symm
  case slice =>
    cases he
    have hcnt : s.cnt = 0 := h.cnt_eq_zero (by simp [← hph])
    have hcrit : s.crit ≠ 1 := h.crit_ne_one (by simp [← hph])
    have hres : s.res = Res.none := h.active_res (by simp [← hph]) (by simp [← hph])
    split
    · exact h.fail _ hcnt hcrit
    · exact (h.setBuf _ (by simp [← hph])).setPh_plain (by decide) hcnt hcrit hres
  case check =>
    cases he
    have hcnt : s.cnt = 0 := h.cnt_eq_zero (by simp [← hph])
    have hcrit : s.crit ≠ 1 := h.crit_ne_one (by simp [← hph])
    have hres : s.res = Res.none := h.active_res (by simp [← hph]) (by simp [← hph])
    split
    · exact h.setPh_commit hcnt hcrit hres ‹_›
    · exact h.fail _ hcnt hcrit
  case commit =>
    cases he
    exact (h.publish hph.symm).setRes_setPh_restore (h.cnt_eq_zero (by simp [← hph]))
      (h.crit_ne_one (by simp [← hph])) (by decide) (by decide) fun _ => rfl
  case restore => cases he; exact h.restoreLine hph.symm

/-- The state after any reset has the invariant (R35). -/
theorem State.afterReset_inv {p : Params} (hp : p.wf) (n : Nat) : (State.afterReset p n).Inv := by
  have hraw : ∀ j : Fin 80, (State.afterReset p n).raw[j] < 2 ^ p.cw := fun j => by
    simpa [State.afterReset] using Nat.mod_lt _ (Nat.two_pow_pos p.cw)
  constructor
  case params_wf => exact hp
  case cnt_lt => exact hp.1
  case raw_fits => exact hraw
  all_goals simp [State.afterReset]

theorem State.Inv.takeReset (h : s.Inv) (ht : s.takeReset = .next t) : t.Inv := by
  obtain ⟨-, rfl⟩ := State.takeReset_next ht
  exact { State.afterReset_inv h.params_wf (s.resets + 1) with }

/-- Settles O41: by the kinds of step, each with its own lemma above. -/
theorem invariantIsKept : Obligations.InvariantIsKept := by
  intro s t h hstep
  have hpop : s.popTurn.Inv := h.schedule _
  obtain ⟨i, -, hi, he⟩ | ⟨n, -, rfl⟩ | ⟨n, v, i, -, hw, he⟩ | ⟨n, v, -, -, rfl⟩ | ⟨-, hr⟩ := step_cases hstep
  · exact exec_keeps_inv hpop hi he
  · exact hpop.hostRead n
  · obtain ⟨-, -, rfl⟩ := hostWriteInstr_some hw
    cases he
    exact (hpop.logHost _).startRead _
  · exact hpop.logHost _
  · exact hpop.takeReset hr

end Sys2Proof.Machine
end

section
/-! SUPPORT. What each instruction writes and carries along (10_state.md R20): the frame statements O34, O35, O37 and
O38, the values of STATUS (O26), and the statements about reset and about slots above 79 (O42, O50, O9). -/

namespace Sys2Proof.Machine

variable {s t : State} {i : Instr}

/-! What a wait writes. -/

/-- A tick of a transmission wait writes CNT and PH, and RES with NO_SIGNAL only (R98 to R100). -/
theorem State.tick_finishAck_frame (level : Level) (next : PhaseCode) (s : State) :
    ∃ n p r, s.tick level (State.finishAck next) = { s.afterPinGet with cnt := n, ph := p, res := r } ∧
      (r = s.res ∨ r = Res.noSignal) := by
  have finish : ∀ r, ∃ p q, State.finishAck next r (s.afterPinGet.setCnt 0) =
      { s.afterPinGet with cnt := 0, ph := p, res := q } ∧ (q = s.res ∨ q = Res.noSignal) := by
    intro r
    obtain ⟨-, h⟩ | ⟨-, h⟩ := State.finishAck_cases next r (s.afterPinGet.setCnt 0)
    · exact ⟨_, _, h, .inr rfl⟩
    · exact ⟨_, _, h, .inl rfl⟩
  obtain ⟨-, h⟩ | ⟨-, -, h⟩ | ⟨-, -, h⟩ := State.tick_cases level (State.finishAck next) s
  · exact h ▸ ⟨0, finish _⟩
  · exact h ▸ ⟨0, finish _⟩
  · exact ⟨_, _, _, h, .inl rfl⟩

theorem exec_ack_frame (hi : i ∈ [Instr.ack1, .ack2, .ack3]) (h : exec i s = .next t) :
    ∃ n p r, t = { s.afterPinGet with cnt := n, ph := p, res := r } ∧ (r = s.res ∨ r = Res.noSignal) := by
  simp only [List.mem_cons, List.not_mem_nil, or_false] at hi
  obtain rfl | rfl | rfl := hi <;> cases h <;> exact State.tick_finishAck_frame _ _ s

/-- A tick of a reception wait writes CNT, IDX and PH, and RAW at IDX only (R111, R112). -/
theorem State.tick_reception_frame {finish : Nat → State → State}
    (hf : ∀ r u, ∃ k p, finish r u = ((u.setSlot r).setIdx k).setPh p) (level : Level) (s : State) :
    ∃ n raw k p, s.tick level finish = { s.afterPinGet with cnt := n, raw := raw, idx := k, ph := p } ∧
      ∀ j : Fin 80, j.val ≠ s.idx.toNat → raw[j] = s.raw[j] := by
  have frame : ∀ r (j : Fin 80), j.val ≠ s.idx.toNat → (s.setSlot r).raw[j] = s.raw[j] := fun r j hj => by
    rw [State.setSlot_raw_get, if_neg hj.symm]
  obtain ⟨-, h⟩ | ⟨-, -, h⟩ | ⟨-, -, h⟩ := State.tick_cases level finish s
  · obtain ⟨k, p, hk⟩ := hf s.cnt (s.afterPinGet.setCnt 0)
    exact ⟨0, _, k, p, h.trans hk, frame s.cnt⟩
  · obtain ⟨k, p, hk⟩ := hf s.params.timeout (s.afterPinGet.setCnt 0)
    exact ⟨0, _, k, p, h.trans hk, frame s.params.timeout⟩
  · exact ⟨_, s.raw, s.idx, s.ph, h, fun _ _ => rfl⟩

theorem exec_reception_frame (hi : i ∈ [Instr.rxLow, .rxHigh]) (h : exec i s = .next t) :
    ∃ n raw k p, t = { s.afterPinGet with cnt := n, raw := raw, idx := k, ph := p } ∧
      ∀ j : Fin 80, j.val ≠ s.idx.toNat → raw[j] = s.raw[j] := by
  simp only [List.mem_cons, List.not_mem_nil, or_false] at hi
  obtain rfl | rfl := hi
  · obtain ⟨-, rfl⟩ := State.receptionTick_next h
    exact State.tick_reception_frame (fun r u => ⟨_, _, rfl⟩) _ s
  · obtain ⟨-, rfl⟩ := State.receptionTick_next h
    refine State.tick_reception_frame (fun r u => ?_) _ s
    obtain ⟨-, h⟩ | ⟨-, h⟩ := State.finishHigh_cases r u
    · exact ⟨u.idx, _, h⟩
    · exact ⟨_, _, h⟩

/-- START writes VAR, RES, CNT, IDX and PH, and RES with NONE only (R141, R142). -/
theorem exec_start_frame {v : Nat} {r : BitVec 6} (h : exec (.start v r) s = .next t) :
    ∃ w q n k p, t = { s with var := w, res := q, cnt := n, idx := k, ph := p } ∧ (q = s.res ∨ q = Res.none) := by
  cases h
  obtain ⟨-, h⟩ | ⟨-, h⟩ := State.startRead_cases (BitVec.ofNat 1 v) s
  · exact ⟨_, _, _, _, _, h, .inr rfl⟩
  · exact ⟨s.var, s.res, s.cnt, s.idx, s.ph, h, .inl rfl⟩

/-- SLICE either fails or writes BUF (R120). -/
theorem exec_slice_cases (h : exec .slice s = .next t) :
    t = s.fail .noData ∨ t = (s.setBuf (frameBytes s.raw)).setPh Phase.check := by
  cases h
  split
  · exact .inl rfl
  · exact .inr rfl

/-- CHECK either passes or fails, and writes nothing else (R130). -/
theorem exec_check_cases (h : exec .check s = .next t) :
    t = s.setPh Phase.commit ∨ t = s.fail .checksum := by
  cases h
  split
  · exact .inl rfl
  · exact .inr rfl

/-! The register table. -/

/-- Settles O34: the waits, START, SLICE and CHECK by their frames, every other instruction by its one next
state. -/
theorem registersHaveTheirWriters : Obligations.RegistersHaveTheirWriters := by
  intro i s t h
  cases i
  case ack1 | ack2 | ack3 =>
    obtain ⟨n, p, r, rfl, -⟩ := exec_ack_frame (by decide) h
    simp
  case rxLow | rxHigh =>
    obtain ⟨n, raw, k, p, rfl, hraw⟩ := exec_reception_frame (by decide) h
    simpa using hraw
  case start =>
    obtain ⟨w, q, n, k, p, rfl, -⟩ := exec_start_frame h
    simp
  case slice => obtain rfl | rfl := exec_slice_cases h <;> simp
  case check => obtain rfl | rfl := exec_check_cases h <;> simp
  all_goals
    cases h
    simp

/-- Settles O35: by the frame of each instruction, which names what RES can become. -/
theorem resultCodeWriters : Obligations.ResultCodeWriters := by
  intro i s t h hne
  cases i
  case ack1 | ack2 | ack3 =>
    obtain ⟨n, p, r, rfl, hr⟩ := exec_ack_frame (by decide) h
    exact .inr (.inl ⟨by decide, hr.resolve_left hne⟩)
  case rxLow | rxHigh =>
    obtain ⟨n, raw, k, p, rfl, -⟩ := exec_reception_frame (by decide) h
    exact absurd rfl hne
  case start v r =>
    obtain ⟨w, q, n, k, p, rfl, hq⟩ := exec_start_frame h
    exact .inl ⟨v, r, rfl, hq.resolve_left hne⟩
  case slice =>
    obtain rfl | rfl := exec_slice_cases h
    · exact .inr (.inr (.inl ⟨rfl, rfl⟩))
    · exact absurd rfl hne
  case check =>
    obtain rfl | rfl := exec_check_cases h
    · exact absurd rfl hne
    · exact .inr (.inr (.inr (.inl ⟨rfl, rfl⟩)))
  case commit => cases h; exact .inr (.inr (.inr (.inr ⟨rfl, rfl⟩)))
  all_goals
    cases h
    exact absurd rfl hne

/-! VAR. -/

@[simp] theorem State.setVar_pinAnswer (v : Flag) (s : State) : (s.setVar v).pinAnswer = s.pinAnswer := rfl

/-- A tick carries VAR along, if its continuation does. -/
theorem State.tick_setVar {level : Level} {finish : Nat → State → State} (v : Flag)
    (hf : ∀ r u, finish r (State.setVar v u) = (finish r u).setVar v) (s : State) :
    (s.setVar v).tick level finish = (s.tick level finish).setVar v := by
  have hcnt : ∀ n, (s.setVar v).afterPinGet.setCnt n = (s.afterPinGet.setCnt n).setVar v := fun _ => rfl
  simp only [State.tick, State.setVar_pinAnswer, State.setVar_cnt, State.setVar_params, hcnt, hf]
  split
  · rfl
  · split <;> rfl

theorem State.finishAck_setVar (v : Flag) (c : PhaseCode) (r : Nat) (s : State) :
    (s.setVar v).finishAck c r = (s.finishAck c r).setVar v := by
  unfold State.finishAck
  rw [apply_ite (State.setVar v)]
  rfl

theorem State.finishHigh_setVar (v : Flag) (r : Nat) (s : State) :
    (s.setVar v).finishHigh r = (s.finishHigh r).setVar v := by
  unfold State.finishHigh
  rw [apply_ite (State.setVar v)]
  rfl

theorem State.receptionTick_setVar {level : Level} {finish : Nat → State → State} (v : Flag)
    (hf : ∀ r u, finish r (State.setVar v u) = (finish r u).setVar v)
    (h : s.receptionTick level finish = .next t) :
    (s.setVar v).receptionTick level finish = .next (t.setVar v) := by
  obtain ⟨hi, rfl⟩ := State.receptionTick_next h
  exact (if_pos hi).trans (congrArg _ (State.tick_setVar v hf s))

theorem State.startRead_of_idle (w : Flag) (hp : s.ph = Phase.idle) :
    s.startRead w = ((((s.setVar w).setRes Res.none).setCnt 0).setIdx 0).setPh Phase.guardGet :=
  if_pos hp

/-- START in IDLE overwrites VAR (R141). -/
theorem State.startRead_setVar_of_idle (v w : Flag) (hp : s.ph = Phase.idle) :
    (s.setVar v).startRead w = s.startRead w :=
  (State.startRead_of_idle (s := s.setVar v) w hp).trans (State.startRead_of_idle w hp).symm

/-- START elsewhere is ignored (R142). -/
theorem State.startRead_of_busy (w : Flag) (hp : s.ph ≠ Phase.idle) : s.startRead w = s :=
  if_neg hp

/-- An instruction other than HS_HOLD and an accepted START does not look at VAR, and carries it along. -/
theorem exec_setVar (v : Flag) (hi : i ≠ .hsHold) (hs : ¬ ((∃ w r, i = .start w r) ∧ s.ph = Phase.idle))
    (h : exec i s = .next t) : exec i (s.setVar v) = .next (t.setVar v) := by
  cases i
  case hsHold => exact absurd rfl hi
  case start w r =>
    cases h
    have hp : s.ph ≠ Phase.idle := fun hp => hs ⟨⟨w, r, rfl⟩, hp⟩
    exact congrArg _ ((State.startRead_of_busy (s := s.setVar v) _ hp).trans
      (congrArg _ (State.startRead_of_busy _ hp).symm))
  case ack1 | ack2 | ack3 =>
    cases h
    exact congrArg _ (State.tick_setVar v (State.finishAck_setVar v _) s)
  case rxLow => exact State.receptionTick_setVar v (fun _ _ => rfl) h
  case rxHigh => exact State.receptionTick_setVar v (State.finishHigh_setVar v) h
  case slice | check =>
    cases h
    rw [apply_ite (State.setVar v)]
    rfl
  all_goals
    cases h
    rfl

/-- Settles O37: an accepted START overwrites VAR; every other instruction commutes with writing it. -/
theorem variantOnlySelectsTheHold : Obligations.VariantOnlySelectsTheHold := by
  rintro i s t v hi h
  refine ⟨?_, fun hs => exec_setVar v hi hs h⟩
  rintro ⟨⟨w, r, rfl⟩, hp⟩
  rw [← h]
  exact congrArg Host.Outcome.next (State.startRead_setVar_of_idle v _ hp)

/-! OUT_VALID. -/

/-- COMMIT sets OUT_VALID, and no other instruction touches it (R27). -/
theorem exec_outValid (h : exec i s = .next t) : t.outValid = if i = .commit then 1 else s.outValid := by
  split
  next hi => subst hi; cases h; rfl
  next hi =>
    obtain ⟨-, -, -, -, -, -, hov, -⟩ := registersHaveTheirWriters i s t h
    exact by_contra fun hne => hi (hov hne)

/-- PH holds COMMIT's code exactly when it decodes to COMMIT (R61). -/
theorem decodePhase_eq_commit_iff {c : PhaseCode} (h : decodePhase c = .ok i) : i = .commit ↔ c = Phase.commit := by
  constructor
  · rintro rfl
    exact (CodeWord.phase.inj (decodePhase_ok h)).symm
  · rintro rfl
    exact (Except.ok.inj h).symm

/-- Settles O38: by the kinds of step; only the sequencer's turn can run COMMIT. -/
theorem outValidIsSetByCommitForEver : Obligations.OutValidIsSetByCommitForEver := by
  intro s t hstep hreset
  obtain ⟨i, hturn, hi, he⟩ | ⟨n, hturn, rfl⟩ | ⟨n, v, i, hturn, hw, he⟩ | ⟨n, v, hturn, -, rfl⟩ | ⟨hr, -⟩ :=
    step_cases hstep
  · simp [exec_outValid he, hturn, decodePhase_eq_commit_iff hi]
  · simp [hturn, State.hostRead]
  · obtain ⟨-, -, rfl⟩ := hostWriteInstr_some hw
    simp [exec_outValid he, hturn]
  · simp [hturn]
  · exact absurd hr hreset

/-! STATUS. -/

/-- In IDLE CRIT is 0, and a result but NONE stands in RES or OUT_VALID is 0: the even values. -/
theorem State.Inv.statusByte_of_idle (h : s.Inv) (hp : s.ph = Phase.idle) :
    s.statusByte ∈ [0x00#8, 0x12#8, 0x20#8, 0x22#8, 0x30#8, 0x32#8, 0x40#8, 0x42#8] := by
  have hcrit := h.crit_ne_one (by simp [hp])
  have hvalid := h.idle_valid hp
  have hok := h.ok_valid
  have hres := h.res_legal
  have hbusy : s.busy = 0 := if_pos hp
  unfold State.statusByte
  rw [hbusy]
  generalize s.res = r, s.crit = c, s.outValid = v at *
  revert r c v
  decide

/-- From GUARD_GET to COMMIT RES is NONE. -/
theorem State.Inv.statusByte_of_active (h : s.Inv) (hlow : 1 ≤ s.ph.toNat) (hhigh : s.ph.toNat ≤ 0x12) :
    s.statusByte ∈ [0x01#8, 0x03#8, 0x05#8, 0x07#8] := by
  have hbusy : s.busy = 1 := if_neg fun hp => by simp [hp] at hlow
  unfold State.statusByte
  rw [hbusy, h.active_res hlow hhigh]
  generalize s.crit = c, s.outValid = v
  revert c v
  decide

/-- In RESTORE CRIT is 0 and RES holds a result. -/
theorem State.Inv.statusByte_of_restore (h : s.Inv) (hp : s.ph = Phase.restore) :
    s.statusByte ∈ [0x13#8, 0x21#8, 0x23#8, 0x31#8, 0x33#8, 0x41#8, 0x43#8] := by
  have hcrit := h.crit_ne_one (by simp [hp])
  have hresult := h.restore_res hp
  have hok := h.ok_valid
  have hres := h.res_legal
  have hbusy : s.busy = 1 := if_neg (by simp [hp])
  unfold State.statusByte
  rw [hbusy]
  generalize s.res = r, s.crit = c, s.outValid = v at *
  revert r c v
  decide

/-- Settles O26: IDLE, a read under way, and RESTORE each have their values. -/
theorem statusValues : Obligations.StatusValues := by
  intro s h
  have hlegal := h.ph_legal
  rw [show s.regRead 1#3 = s.statusByte from rfl]
  obtain hp | hp | ⟨hlow, hhigh⟩ : s.ph.toNat = 0 ∨ s.ph.toNat = 0x13 ∨ 1 ≤ s.ph.toNat ∧ s.ph.toNat ≤ 0x12 := by
    omega
  · exact List.subset_def.mp (by decide) (h.statusByte_of_idle (BitVec.eq_of_toNat_eq hp))
  · exact List.subset_def.mp (by decide) (h.statusByte_of_restore (BitVec.eq_of_toNat_eq hp))
  · exact List.subset_def.mp (by decide) (h.statusByte_of_active hlow hhigh)

/-! Reset, and the slots RAW does not have. -/

/-- Settles O42: R36 by the lemma about every reset; the trace is empty, so the guard port is balanced and the
line untouched. -/
theorem invariantsHoldAtReset : Obligations.InvariantsHoldAtReset :=
  ⟨State.afterReset_inv config_params_wf 0, rfl, fun _ => .inl rfl⟩

/-- Settles O50: each is the value `State.afterReset` gives. -/
theorem stateAfterReset : Obligations.StateAfterReset :=
  ⟨rfl, rfl, rfl, rfl, rfl, rfl, rfl⟩

/-- A reception tick for a slot RAW does not have stops (R20, R22; log 9). -/
theorem State.receptionTick_fault {level : Level} {finish : Nat → State → State} (h : 80 ≤ s.idx.toNat) :
    s.receptionTick level finish = .fault (.noSuchSlot s.idx) :=
  if_neg h.not_gt

/-- Settles O9: RX_LOW and RX_HIGH are reception ticks. -/
theorem receptionStopsOutsideTheSlots : Obligations.ReceptionStopsOutsideTheSlots :=
  fun _ h => ⟨State.receptionTick_fault h, State.receptionTick_fault h⟩

end Sys2Proof.Machine
end

section
/-! SUPPORT. The ports of 20_memory.md: what one pin read takes and records (O1), and the balance of the guard port
under each instruction and under a step (O44). -/

namespace Sys2Proof.Machine

variable {s t : State}

/-! The pin port. -/

/-- A pin read takes the listed answer off the list (R42; log 3). -/
theorem State.afterPinGet_cons {b : Level} {rest : List Level} (h : s.answers = b :: rest) :
    s.afterPinGet =
      { s with answers := rest, draws := s.draws + 1, trace := s.trace ++ [.pinGet b] } := by
  simp [State.afterPinGet, State.pinAnswer_cons h, h]

/-- Where no answer is listed, a pin read leaves the list as it is. -/
theorem State.afterPinGet_nil (h : s.answers = []) :
    s.afterPinGet = { s with draws := s.draws + 1, trace := s.trace ++ [.pinGet s.pinAnswer] } := by
  simp [State.afterPinGet, h]

/-- Settles O1: the level and the state left, for a listed answer and for a free one. -/
theorem pinGetTakesTheNextAnswer : Obligations.PinGetTakesTheNextAnswer :=
  ⟨fun _ _ _ h => ⟨State.pinAnswer_cons h, State.afterPinGet_cons h⟩,
    fun _ h => ⟨State.pinAnswer_nil h, State.afterPinGet_nil h⟩⟩

/-! The guard port. -/

/-- The balance speaks of the trace and CRIT only. -/
theorem State.GuardBalanced.congr (h : s.GuardBalanced) (htrace : t.trace = s.trace) (hcrit : t.crit = s.crit) :
    t.GuardBalanced := by
  unfold State.GuardBalanced at h ⊢
  rwa [htrace, hcrit]

/-- An operation on the pin or the delay port is none of those the balance counts. -/
theorem State.GuardBalanced.append (h : s.GuardBalanced) {e : PortEvent} (htrace : t.trace = s.trace ++ [e])
    (hcrit : t.crit = s.crit) (henter : e ≠ .critEnter) (hexit : e ≠ .critExit) : t.GuardBalanced := by
  unfold State.GuardBalanced at h ⊢
  rw [htrace, hcrit]
  simpa [henter, hexit] using h

/-- CRIT_ENTER outside the critical section opens it (R110). -/
theorem State.GuardBalanced.execCritEnter (h : s.GuardBalanced) (hcrit : s.crit = 0) :
    ((((s.emit .critEnter).setCrit 1).setIdx 0).setPh Phase.rxLow).GuardBalanced := by
  simpa [State.GuardBalanced, hcrit] using h

/-- CRIT_EXIT inside the critical section closes it (R113). -/
theorem State.GuardBalanced.execCritExit (h : s.GuardBalanced) (hcrit : s.crit = 1) :
    (((s.emit .critExit).setCrit 0).setPh Phase.slice).GuardBalanced := by
  simpa [State.GuardBalanced, hcrit] using h

theorem State.GuardBalanced.logHost (h : s.GuardBalanced) (e : HostEvent) : (s.logHost e).GuardBalanced :=
  h.congr rfl rfl

/-- START performs no port operation and leaves CRIT (R141). -/
theorem exec_start_keeps_guardBalanced {v : Nat} {r : BitVec 6} (h : s.GuardBalanced)
    (he : exec (.start v r) s = .next t) : t.GuardBalanced := by
  obtain ⟨w, q, n, k, p, rfl, -⟩ := exec_start_frame he
  exact h.congr rfl rfl

/-- A micro-operation performed in its own phase keeps the balance: only CRIT_ENTER and CRIT_EXIT touch the guard
port, and R36.3 gives the value of CRIT in their phases. -/
theorem exec_keeps_guardBalanced {i : Instr} (hinv : s.Inv) (h : s.GuardBalanced) (hi : decodePhase s.ph = .ok i)
    (he : exec i s = .next t) : t.GuardBalanced := by
  have hph : encode i = .phase s.ph := decodePhase_ok hi
  cases i
  case critEnter =>
    cases he
    have hout : s.crit ≠ 1 := hinv.crit_ne_one (by simp [← CodeWord.phase.inj hph])
    exact h.execCritEnter ((BitVec.eq_zero_or_eq_one s.crit).resolve_right hout)
  case critExit =>
    cases he
    exact h.execCritExit (hinv.crit_iff.mpr (by simp [← CodeWord.phase.inj hph]))
  case ack1 | ack2 | ack3 =>
    obtain ⟨n, p, r, rfl, -⟩ := exec_ack_frame (by decide) he
    exact h.append rfl rfl (by simp) (by simp)
  case rxLow | rxHigh =>
    obtain ⟨n, raw, k, p, rfl, -⟩ := exec_reception_frame (by decide) he
    exact h.append rfl rfl (by simp) (by simp)
  case slice => obtain rfl | rfl := exec_slice_cases he <;> exact h.congr rfl rfl
  case check => obtain rfl | rfl := exec_check_cases he <;> exact h.congr rfl rfl
  case idle | commit => cases he; exact h.congr rfl rfl
  case start => exact exec_start_keeps_guardBalanced h he
  case guardGet | guardSet | guardSettle | hsCfgOut | hsLow | hsHold | hsHigh | hsCfgIn | restore =>
    cases he
    exact h.append rfl rfl (by simp) (by simp)

/-- A new run begins with no event and CRIT = 0 (R35). -/
theorem State.takeReset_guardBalanced (ht : s.takeReset = .next t) : t.GuardBalanced := by
  obtain ⟨-, rfl⟩ := State.takeReset_next ht
  rfl

/-- Settles O44: by the kinds of step; a host access, START included, performs no port operation. -/
theorem guardPortStaysBalanced : Obligations.GuardPortStaysBalanced := by
  intro s t hinv h hstep
  have hpop : s.popTurn.GuardBalanced := h.congr rfl rfl
  obtain ⟨i, -, hi, he⟩ | ⟨n, -, rfl⟩ | ⟨n, v, i, -, hw, he⟩ | ⟨n, v, -, -, rfl⟩ | ⟨-, hr⟩ := step_cases hstep
  · exact exec_keeps_guardBalanced (hinv.schedule _) hpop hi he
  · exact hpop.logHost _
  · obtain ⟨-, -, rfl⟩ := hostWriteInstr_some hw
    exact exec_start_keeps_guardBalanced (hpop.logHost _) he
  · exact hpop.logHost _
  · exact State.takeReset_guardBalanced hr

end Sys2Proof.Machine
end

section
/-! SUPPORT. The two code spaces of 30_encoding.md: the decoder against the encoder (O27, O28, O29). -/

namespace Sys2Proof.Machine

/-- A START byte `xxxxxxv1` gives its fields back, the ignored bits included (R65). -/
theorem decodeCtrl_startByte (v : BitVec 1) (r : BitVec 6) :
    decodeCtrl (r ++ v ++ 1#1) = .ok (.start v.toNat r) := by
  have hcommand : (r ++ v ++ 1#1).extractLsb' 0 1 = 1#1 := BitVec.extractLsb'_append_eq_right
  have hvariant : (r ++ v ++ 1#1).extractLsb' 1 1 = v :=
    (BitVec.extractLsb'_append_eq_of_le le_rfl).trans BitVec.extractLsb'_append_eq_right
  have hreserved : (r ++ v ++ 1#1).extractLsb' 2 6 = r :=
    (BitVec.extractLsb'_append_eq_of_le (by decide)).trans BitVec.extractLsb'_append_eq_left
  rw [decodeCtrl, if_pos hcommand, hvariant, hreserved]

/-- A byte is its three fields (R65). -/
theorem byte_eq_append_fields (b : Byte) :
    b.extractLsb' 2 6 ++ b.extractLsb' 1 1 ++ b.extractLsb' 0 1 = b := by
  rw [BitVec.extractLsb'_append_extractLsb'_eq_extractLsb' (by rfl),
    BitVec.extractLsb'_append_extractLsb'_eq_extractLsb' (by rfl), BitVec.extractLsb'_eq_self]

/-- Every instruction whose word is a phase code is well formed: none has an operand (R62). -/
theorem wf_of_encode_phase {c : PhaseCode} {i : Instr} (h : encode i = .phase c) : i.wf = true := by
  cases i
  case start => cases h
  all_goals rfl

/-- The codes 0x14..0x1F are rejected by name (R67). -/
theorem decodePhase_reserved {c : PhaseCode} (h : 20 ≤ c.toNat) : decodePhase c = .error (.reservedPhase c) := by
  unfold decodePhase
  split
  case h_21 => rfl
  all_goals omega

/-- A code that decodes is none of the reserved ones (R67). -/
theorem decodePhase_ok_lt {c : PhaseCode} {i : Instr} (h : decodePhase c = .ok i) : c.toNat < 20 := by
  by_contra hc
  cases h.symm.trans (decodePhase_reserved (Nat.le_of_not_lt hc))

/-- At register 0 a write is the instruction its byte decodes to (R65). -/
theorem hostWriteInstr_of_decode {v : Byte} {i : Instr} (hi : decode (.ctrl v) = .ok i) :
    hostWriteInstr 0 v = some i := by
  simp [hostWriteInstr, hi, Except.toOption]

/-- Settles O27: a micro-operation by its code, START by the fields of its byte. -/
theorem decodeOfEncode : Obligations.DecodeOfEncode := by
  intro i hwf
  cases i
  case start v r =>
    have hv : (BitVec.ofNat 1 v).toNat = v := Nat.mod_eq_of_lt (of_decide_eq_true hwf)
    exact (decodeCtrl_startByte (BitVec.ofNat 1 v) r).trans (by rw [hv])
  all_goals rfl

/-- Settles O28: in the space of PH a code that decodes is its instruction's; in that of CTRL a command is its
three fields put together. -/
theorem encodeOfDecode : Obligations.EncodeOfDecode := by
  intro w i h
  cases w with
  | phase c =>
    have hc : encode i = .phase c := decodePhase_ok h
    exact ⟨wf_of_encode_phase hc, hc⟩
  | ctrl b =>
    obtain ⟨-, hcommand, rfl⟩ := hostWriteInstr_some (hostWriteInstr_of_decode h)
    refine ⟨decide_eq_true (BitVec.isLt _), ?_⟩
    have hv : BitVec.ofNat 1 (b.extractLsb' 1 1).toNat = b.extractLsb' 1 1 :=
      (BitVec.ofNat_toNat _ _).trans (BitVec.setWidth_eq _)
    rw [encode, hv, ← hcommand, byte_eq_append_fields]

/-- Settles O29: by running the decoder. -/
theorem specWordsDecode : Obligations.SpecWordsDecode :=
  ⟨rfl, rfl, rfl, rfl, rfl, rfl, rfl, rfl, rfl, rfl, rfl, rfl⟩

end Sys2Proof.Machine
end

section
/-! SUPPORT. What runs in a step (O30), where PH can go (O31, O32) and what each instruction does at the ports
(O33). -/

namespace Sys2Proof.Machine

variable {s t : State} {i : Instr}

/-! The turn taken. -/

/-- On the sequencer's turn the instruction PH holds runs (R62). -/
theorem step_of_sequencer (hturn : s.nextTurn = .sequencer) (hi : decodePhase s.ph = .ok i) :
    step s = exec i s.popTurn := by
  simp [step, hturn, hi]

/-- A reserved code has no step of the sequencer (R67). -/
theorem step_of_reservedPhase (hturn : s.nextTurn = .sequencer) (hp : 20 ≤ s.ph.toNat) :
    step s = .fault (.stuckPhase s.ph) := by
  simp [step, hturn, decodePhase_reserved hp]

/-- A host write that is an instruction runs it (R141). -/
theorem step_of_regWrite {n : HostReg} {v : Byte} (hturn : s.nextTurn = .regWrite n v)
    (hi : hostWriteInstr n v = some i) : step s = exec i (s.popTurn.logHost (.wrote n v)) := by
  simp [step, hturn, hi]

/-- Settles O30: the sequencer's turn and the host's write of a command. -/
theorem stepRunsTheDecodedInstruction : Obligations.StepRunsTheDecodedInstruction :=
  fun _ _ => ⟨fun hturn hi => step_of_sequencer hturn hi,
    fun _ hturn hi => step_of_regWrite hturn (hostWriteInstr_of_decode hi)⟩

/-! Where PH goes. -/

/-- A tick leaves PH alone or does with it what the end of its wait does (R80). -/
theorem State.tick_ph {level : Level} {finish : Nat → State → State} {next : List PhaseCode}
    (hf : ∀ r u, (finish r u).ph ∈ next) (s : State) : (s.tick level finish).ph ∈ s.ph :: next := by
  obtain ⟨-, h⟩ | ⟨-, -, h⟩ | ⟨-, -, h⟩ := State.tick_cases level finish s <;> rw [h]
  · exact List.mem_cons_of_mem _ (hf _ _)
  · exact List.mem_cons_of_mem _ (hf _ _)
  · exact List.mem_cons_self

/-- R98 to R100. -/
theorem State.finishAck_ph (c : PhaseCode) (r : Nat) (s : State) :
    (s.finishAck c r).ph ∈ [c, Phase.restore] := by
  obtain ⟨-, h⟩ | ⟨-, h⟩ := State.finishAck_cases c r s <;> simp [h]

/-- R111. -/
theorem State.finishLow_ph (r : Nat) (s : State) : (s.finishLow r).ph ∈ [Phase.rxHigh] :=
  List.mem_singleton_self _

/-- R112. -/
theorem State.finishHigh_ph (r : Nat) (s : State) : (s.finishHigh r).ph ∈ [Phase.rxLow, Phase.critExit] := by
  obtain ⟨-, h⟩ | ⟨-, h⟩ := State.finishHigh_cases r s <;> simp [h]

/-- START moves PH from IDLE to GUARD_GET or leaves it (R141, R142). -/
theorem exec_start_ph {v : Nat} {r : BitVec 6} (h : exec (.start v r) s = .next t) :
    t.ph = s.ph ∨ (s.ph = Phase.idle ∧ t.ph = Phase.guardGet) := by
  cases h
  obtain ⟨hp, h⟩ | ⟨-, h⟩ := State.startRead_cases (BitVec.ofNat 1 v) s <;> rw [h]
  · exact .inr ⟨hp, rfl⟩
  · exact .inl rfl

/-- Settles O32: each instruction from its own code. For a wait the table is checked against everything its tick can
leave in PH; GUARD_GET, SLICE and CHECK branch; every other instruction has one successor. -/
theorem successorsFollowTheTable : Obligations.SuccessorsFollowTheTable := by
  intro s t i hi he
  have hph : encode i = .phase s.ph := decodePhase_ok hi
  cases i <;> simp only [encode, CodeWord.phase.injEq, reduceCtorEq] at hph
  case guardGet =>
    cases he
    rw [State.setPh_ph, ← hph]
    split <;> decide
  case ack1 | ack2 | ack3 =>
    cases he
    refine (?_ : ∀ q ∈ _, (s.ph, q) ∈ _) _ (State.tick_ph (State.finishAck_ph _) s)
    rw [← hph]
    decide
  case rxLow =>
    obtain ⟨-, rfl⟩ := State.receptionTick_next he
    refine (?_ : ∀ q ∈ _, (s.ph, q) ∈ _) _ (State.tick_ph State.finishLow_ph s)
    rw [← hph]
    decide
  case rxHigh =>
    obtain ⟨-, rfl⟩ := State.receptionTick_next he
    refine (?_ : ∀ q ∈ _, (s.ph, q) ∈ _) _ (State.tick_ph State.finishHigh_ph s)
    rw [← hph]
    decide
  case slice => obtain rfl | rfl := exec_slice_cases he <;> simp [← hph]
  case check => obtain rfl | rfl := exec_check_cases he <;> simp [← hph]
  all_goals
    cases he
    simp [← hph]

/-- A step moves PH only by the instruction PH holds or by START in IDLE. -/
theorem step_ph_cases (h : step s = .next t) :
    (∃ i, decodePhase s.ph = .ok i ∧ exec i s.popTurn = .next t) ∨
    t.ph = s.ph ∨ (s.ph = Phase.idle ∧ t.ph = Phase.guardGet) := by
  obtain ⟨i, -, hi, he⟩ | ⟨n, -, rfl⟩ | ⟨n, v, i, -, hw, he⟩ | ⟨n, v, -, -, rfl⟩ | ⟨-, hr⟩ := step_cases h
  · exact .inl ⟨i, hi, he⟩
  · exact .inr (.inl rfl)
  · obtain ⟨-, -, rfl⟩ := hostWriteInstr_some hw
    exact .inr (exec_start_ph (s := s.popTurn.logHost _) he)
  · exact .inr (.inl rfl)
  · obtain ⟨hp, rfl⟩ := State.takeReset_next hr
    exact .inr (.inl hp.symm)

/-- From a reserved code no step that answers a next state moves PH: it is a host access (R67). -/
theorem step_keeps_reservedPhase (hp : 20 ≤ s.ph.toNat) (h : step s = .next t) : t.ph = s.ph := by
  obtain ⟨i, hi, -⟩ | hkeep | ⟨hidle, -⟩ := step_ph_cases h
  · exact absurd (decodePhase_ok_lt hi) hp.not_gt
  · exact hkeep
  · exact absurd hp (by simp [hidle])

/-- An instruction in its own phase goes to a legal code: every code the table names is one (R63). -/
theorem exec_ph_legal (hi : decodePhase s.ph = .ok i) (he : exec i s = .next t) : t.ph.toNat < 20 := by
  refine (?_ : ∀ p : PhaseCode × PhaseCode, p ∈ _ → p.2.toNat < 20) _ (successorsFollowTheTable s t i hi he)
  simp

/-- No step leaves the legal codes (R36.1, R67). -/
theorem step_ph_legal (hp : s.ph.toNat < 20) (h : step s = .next t) : t.ph.toNat < 20 := by
  obtain ⟨i, hi, he⟩ | hkeep | ⟨-, hguard⟩ := step_ph_cases h
  · exact exec_ph_legal (s := s.popTurn) hi he
  · exact hkeep ▸ hp
  · simp [hguard]

/-- Settles O31: the codes themselves, a state that holds one, and the states that hold none. -/
theorem reservedPhaseIsStuck : Obligations.ReservedPhaseIsStuck := by
  refine ⟨fun c hc => decodePhase_reserved hc, fun s hp => ?_, fun s t hp h => step_ph_legal hp h⟩
  have hbusy : s.busy = 1 := if_neg fun hidle => by simp [hidle] at hp
  exact ⟨fun hturn => step_of_reservedPhase hturn hp, hbusy, fun t h => step_keeps_reservedPhase hp h⟩

/-! The ports. -/

/-- Settles O33: a wait reads the pin once, SLICE, CHECK and START touch no port, and every other instruction's
next state shows its event. -/
theorem portOperationOfEachInstruction : Obligations.PortOperationOfEachInstruction := by
  intro i s t h
  cases i
  case ack1 | ack2 | ack3 => cases h; exact State.tick_trace (State.finishAck_trace _)
  case rxLow =>
    obtain ⟨-, rfl⟩ := State.receptionTick_next h
    exact State.tick_trace State.finishLow_trace
  case rxHigh =>
    obtain ⟨-, rfl⟩ := State.receptionTick_next h
    exact State.tick_trace State.finishHigh_trace
  case start =>
    obtain ⟨w, q, n, k, p, rfl, -⟩ := exec_start_frame h
    exact (List.append_nil _).symm
  case slice => obtain rfl | rfl := exec_slice_cases h <;> exact (List.append_nil _).symm
  case check => obtain rfl | rfl := exec_check_cases h <;> exact (List.append_nil _).symm
  case idle | commit => cases h; exact (List.append_nil _).symm
  all_goals
    cases h
    rfl

end Sys2Proof.Machine
end

section
/-! SUPPORT. The Pulse Sampler of 40_pulse_sampler.md over a whole wait: what a run of equal answers does in a wait
phase, for the acknowledgement waits (O11) and the reception waits (O12); and the widths of the counts (O46). -/

namespace Sys2Proof.Machine

variable {s : State} {level : Level} {finish : Nat → State → State}

/-! The three outcomes of a tick, and the two of an acknowledgement wait. -/

/-- A differing answer ends the wait with the count (R80). -/
theorem State.tick_of_ne (h : s.pinAnswer ≠ level) :
    s.tick level finish = finish s.cnt (s.afterPinGet.setCnt 0) :=
  if_pos h

/-- The equal answer that brings the count to TIMEOUT ends the wait with the sentinel (R80, R82). -/
theorem State.tick_of_ceiling (h : s.pinAnswer = level) (hc : s.cnt + 1 = s.params.timeout) :
    s.tick level finish = finish s.params.timeout (s.afterPinGet.setCnt 0) :=
  (if_neg (not_not.2 h)).trans (if_pos hc)

/-- Any other equal answer counts (R80). -/
theorem State.tick_of_eq (h : s.pinAnswer = level) (hc : s.cnt + 1 ≠ s.params.timeout) :
    s.tick level finish = s.afterPinGet.setCnt (s.cnt + 1) :=
  (if_neg (not_not.2 h)).trans (if_neg hc)

theorem State.finishAck_of_ne {c : PhaseCode} {r : Nat} (h : r ≠ s.params.timeout) :
    s.finishAck c r = s.setPh c :=
  if_neg h

theorem State.finishAck_of_timeout {c : PhaseCode} {r : Nat} (h : r = s.params.timeout) :
    s.finishAck c r = s.fail .noSignal :=
  if_pos h

/-! The phases of a wait. -/

/-- While PH, IDX and the turns to come are those of `s`, a step is one tick of the wait for departure from `level`
that goes on with `finish` (R80). -/
def State.Waits (level : Level) (finish : Nat → State → State) (s : State) : Prop :=
  ∀ u : State, u.schedule = s.schedule → u.ph = s.ph → u.idx = s.idx → step u = .next (u.tick level finish)

/-- Where nothing is scheduled, a step runs the instruction PH holds and nothing else (R62). -/
theorem step_of_quiet {i : Instr} (hs : s.HostQuiet) (hi : decodePhase s.ph = .ok i) : step s = exec i s := by
  have hsched : s.schedule = [] := hs
  have hpop : s.popTurn = s := by rw [State.popTurn, hsched, List.tail_nil, ← hsched]
  rw [step_of_sequencer (by simp [State.nextTurn, hsched]) hi, hpop]

/-- An instruction that is one tick at the IDX of `s` makes the phase of `s` a wait. -/
theorem State.waits_of_exec {i : Instr} (hs : s.HostQuiet) (hi : decodePhase s.ph = .ok i)
    (he : ∀ u : State, u.idx = s.idx → exec i u = .next (u.tick level finish)) : s.Waits level finish :=
  fun u hsched hp hidx => (step_of_quiet (hsched.trans hs) (hp ▸ hi)).trans (he u hidx)

/-- A reception tick that has a slot to fill is a tick (R20, R111, R112). -/
theorem State.receptionTick_of_lt (h : s.idx.toNat < 80) :
    s.receptionTick level finish = .next (s.tick level finish) :=
  if_pos h

/-- R98 to R100, R84: the three acknowledgement waits, each with its level and its next phase. -/
theorem State.waits_ack {code nxt : PhaseCode}
    (hmem : (code, level, nxt) ∈
      [(0x09#5, 1#1, 0x0A#5), (0x0A#5, 0#1, 0x0B#5), (0x0B#5, 1#1, 0x0C#5)])
    (hs : s.HostQuiet) (hp : s.ph = code) : s.Waits level (State.finishAck nxt) := by
  simp only [List.mem_cons, Prod.mk.injEq, List.not_mem_nil, or_false] at hmem
  obtain ⟨rfl, rfl, rfl⟩ | ⟨rfl, rfl, rfl⟩ | ⟨rfl, rfl, rfl⟩ := hmem
  · exact State.waits_of_exec (i := .ack1) hs (by rw [hp]; rfl) fun _ _ => rfl
  · exact State.waits_of_exec (i := .ack2) hs (by rw [hp]; rfl) fun _ _ => rfl
  · exact State.waits_of_exec (i := .ack3) hs (by rw [hp]; rfl) fun _ _ => rfl

/-- R111, R84. -/
theorem State.waits_rxLow (hs : s.HostQuiet) (hp : s.ph = Phase.rxLow) (hidx : s.idx.toNat < 80) :
    s.Waits levelRxLow State.finishLow :=
  State.waits_of_exec (i := .rxLow) hs (by rw [hp]; rfl) fun _ hu => State.receptionTick_of_lt (hu ▸ hidx)

/-- R112, R84. -/
theorem State.waits_rxHigh (hs : s.HostQuiet) (hp : s.ph = Phase.rxHigh) (hidx : s.idx.toNat < 80) :
    s.Waits levelRxHigh State.finishHigh :=
  State.waits_of_exec (i := .rxHigh) hs (by rw [hp]; rfl) fun _ hu => State.receptionTick_of_lt (hu ▸ hidx)

/-! The run of equal answers. -/

theorem State.setCnt_of_cnt_eq {n : Nat} (h : s.cnt = n) : s.setCnt n = s := by
  cases h; rfl

/-- As `s`, after `n` pin reads that all answered `level` and left `rest` to come. -/
def State.afterRun (level : Level) (n : Nat) (rest : List Level) (s : State) : State :=
  { s with
    answers := rest
    draws := s.draws + n
    trace := s.trace ++ List.replicate n (.pinGet level) }

/-- One more equal answer lengthens the run by one (R42). -/
theorem State.afterRun_afterPinGet (n : Nat) (rest : List Level) :
    (s.afterRun level n (level :: rest)).afterPinGet = s.afterRun level (n + 1) rest := by
  rw [State.afterPinGet_cons rfl]
  simp [State.afterRun, List.replicate_succ', Nat.add_assoc]

/-- After a run the wait goes on. -/
theorem State.Waits.step_afterRun (hw : s.Waits level finish) (n c : Nat) (rest : List Level) :
    step ((s.afterRun level n rest).setCnt c) = .next (((s.afterRun level n rest).setCnt c).tick level finish) :=
  hw _ rfl rfl rfl

/-- `n` equal answers that do not bring CNT to TIMEOUT are `n` ticks that count (R80, R81). -/
theorem State.Waits.counts (hw : s.Waits level finish) {n : Nat} {rest : List Level}
    (hlt : s.cnt + n < s.params.timeout) (ha : s.answers = List.replicate n level ++ rest) :
    runSteps n s = .next ((s.afterRun level n rest).setCnt (s.cnt + n)) := by
  induction n generalizing rest with
  | zero =>
    have hrest : s.answers = rest := ha
    rw [Nat.add_zero, State.setCnt_of_cnt_eq (s := s.afterRun level 0 rest) (n := s.cnt) rfl]
    simp [State.afterRun, ← hrest]
  | succ n ih =>
    have hrun := ih (rest := level :: rest) (by omega) (by simp [ha, List.replicate_succ'])
    have htick : step ((s.afterRun level n (level :: rest)).setCnt (s.cnt + n)) =
        .next ((s.afterRun level (n + 1) rest).setCnt (s.cnt + (n + 1))) := by
      rw [hw.step_afterRun, State.tick_of_eq (State.pinAnswer_cons rfl) hlt.ne, ← State.afterRun_afterPinGet]
      rfl
    rw [runSteps_add hrun, runSteps_succ_next htick, runSteps_zero]

/-- A run of `n` equal answers shorter than TIMEOUT and one that differs end the wait with the result `n`, in
`n + 1` steps (R81, R82). -/
theorem State.Waits.departs (hw : s.Waits level finish) (hcnt : s.cnt = 0) {n : Nat} {b : Level} {rest : List Level}
    (hlt : n < s.params.timeout) (hb : b ≠ level) (ha : s.answers = List.replicate n level ++ b :: rest) :
    runSteps (n + 1) s = .next (finish n { s with
      answers := rest, draws := s.draws + n + 1
      trace := s.trace ++ List.replicate n (.pinGet level) ++ [.pinGet b] }) := by
  have hrun := hw.counts (by omega) ha
  rw [hcnt, Nat.zero_add] at hrun
  have htick : step ((s.afterRun level n (b :: rest)).setCnt n) =
      .next (finish n ((s.afterRun level n (b :: rest)).afterPinGet.setCnt 0)) := by
    rw [hw.step_afterRun, State.tick_of_ne (s := (s.afterRun level n (b :: rest)).setCnt n) hb]
    rfl
  rw [runSteps_add hrun, runSteps_succ_next htick, runSteps_zero,
    State.setCnt_of_cnt_eq (s := (s.afterRun level n (b :: rest)).afterPinGet) hcnt]
  rfl

/-- TIMEOUT equal answers end the wait with the sentinel, in TIMEOUT steps, whatever comes next (R81, R82). -/
theorem State.Waits.expires (hw : s.Waits level finish) (hcnt : s.cnt = 0) (hpos : 1 ≤ s.params.timeout)
    {rest : List Level} (ha : s.answers = List.replicate s.params.timeout level ++ rest) :
    runSteps s.params.timeout s = .next (finish s.params.timeout (s.afterRun level s.params.timeout rest)) := by
  obtain ⟨n, hn⟩ := Nat.exists_eq_add_of_le' hpos
  have hrun := hw.counts (n := n) (rest := level :: rest) (by omega) (by simp [ha, hn, List.replicate_succ'])
  rw [hcnt, Nat.zero_add] at hrun
  have htick : step ((s.afterRun level n (level :: rest)).setCnt n) =
      .next (finish s.params.timeout (s.afterRun level (n + 1) rest)) := by
    rw [hw.step_afterRun, State.tick_of_ceiling (State.pinAnswer_cons rfl) hn.symm,
      ← State.setCnt_of_cnt_eq (s := s.afterRun level (n + 1) rest) hcnt, ← State.afterRun_afterPinGet]
    rfl
  calc runSteps s.params.timeout s
      = runSteps (n + 1) s := by rw [hn]
    _ = runSteps 1 ((s.afterRun level n (level :: rest)).setCnt n) := runSteps_add hrun
    _ = .next (finish s.params.timeout (s.afterRun level s.params.timeout rest)) := by
      rw [runSteps_succ_next htick, runSteps_zero, ← hn]

/-! The obligations. -/

theorem complement_level_ne (b : Level) : ~~~b ≠ b := by
  revert b; decide

/-- Settles O11: the two ends of a wait, with NoSignal at the sentinel only. -/
theorem ackWaitCountsTheRun : Obligations.AckWaitCountsTheRun := by
  intro s code nxt level n rest hmem hs hp hcnt hpos
  have hw := State.waits_ack hmem hs hp
  refine ⟨fun hlt ha => ?_, ?_⟩
  · exact (hw.departs hcnt hlt (complement_level_ne level) ha).trans (congrArg _ (State.finishAck_of_ne hlt.ne))
  · rintro rfl ha
    exact (hw.expires hcnt hpos ha).trans (congrArg _ (State.finishAck_of_timeout rfl))

/-- The two reception waits of O12 go on alike: fill the slot, step IDX, and wait for the other level. -/
theorem State.waits_reception (hs : s.HostQuiet)
    (hp : s.ph = 0x0D#5 ∧ level = 0#1 ∧ s.idx.toNat < 80 ∨ s.ph = 0x0E#5 ∧ level = 1#1 ∧ s.idx.toNat < 79) :
    ∃ finish, s.Waits level finish ∧ ∀ (r : Nat) (u : State), u.idx = s.idx →
      finish r u = ((u.setSlot r).setIdx (u.idx + 1)).setPh (if level = 0#1 then 0x0E#5 else 0x0D#5) := by
  obtain ⟨hp, rfl, hidx⟩ | ⟨hp, rfl, hidx⟩ := hp
  · exact ⟨_, State.waits_rxLow hs hp hidx, fun _ _ _ => rfl⟩
  · refine ⟨_, State.waits_rxHigh hs hp (by omega), fun r u hu => ?_⟩
    obtain ⟨hlast, -⟩ | ⟨-, hf⟩ := State.finishHigh_cases r u
    · simp [← hu, hlast] at hidx
    · exact hf

/-- Settles O12: the two ends of a wait, the result in the slot either way. -/
theorem receptionWaitStoresTheRun : Obligations.ReceptionWaitStoresTheRun := by
  intro s level n rest hs hcnt hpos hp
  obtain ⟨finish, hw, hf⟩ := State.waits_reception hs hp
  refine ⟨fun hlt ha => ?_, ?_⟩
  · exact (hw.departs hcnt hlt (complement_level_ne level) ha).trans (congrArg _ (hf _ _ rfl))
  · rintro rfl ha
    exact (hw.expires hcnt hpos ha).trans (congrArg _ (hf _ _ rfl))

/-- Settles O46: the invariant of the next state bounds CNT by TIMEOUT, and R8 puts TIMEOUT below 2^CW. -/
theorem countsFitTheCounter : Obligations.CountsFitTheCounter := by
  intro s t h hstep
  have ht : t.Inv := invariantIsKept s t h hstep
  obtain ⟨-, hfits⟩ := ht.params_wf
  exact ⟨ht.cnt_lt, lt_of_le_of_lt ht.cnt_lt hfits, ht.raw_fits⟩

end Sys2Proof.Machine
end

section
/-! SUPPORT. The Power-Up Guard and the Handshake Sequencer of 41_handshake.md (O2, O4, O5), the tick of the
acknowledgement waits (O6), and the way in and out of GUARD_SET, RESTORE and IDLE (O3, O19, O45). -/

namespace Sys2Proof.Machine

variable {s t : State} {i : Instr} {c : PhaseCode}

/-! The guard and the handshake. -/

/-- Settles O2: GUARD_GET's next state is the one stated. -/
theorem guardGetReadsOnceAndBranches : Obligations.GuardGetReadsOnceAndBranches :=
  fun _ => rfl

/-- Settles O4: the next state of each of the five micro-operations is the one stated. -/
theorem handshakeMicroOperations : Obligations.HandshakeMicroOperations :=
  fun _ => ⟨rfl, rfl, rfl, rfl, rfl⟩

/-- Where nothing is scheduled, the instruction PH holds can be taken off a run. -/
theorem runSteps_succ_of_quiet {k : Nat} (hs : s.HostQuiet) (hi : decodePhase s.ph = .ok i)
    (he : exec i s = .next t) : runSteps (k + 1) s = runSteps k t :=
  runSteps_succ_next ((step_of_quiet hs hi).trans he)

/-- The five micro-operations of the handshake run in order (R93 to R97). -/
theorem runSteps_handshake (hs : s.HostQuiet) (hp : s.ph = Phase.hsCfgOut) :
    runSteps 5 s = .next { s with
      ph := Phase.ack1
      trace := s.trace ++ [.pinConfigure .output, .pinSet 0#1, .delay (.startLow s.var), .pinSet 1#1,
        .pinConfigure .input] } := by
  refine Eq.trans (runSteps_succ_of_quiet (i := .hsCfgOut) hs (by rw [hp]; rfl) rfl) ?_
  refine Eq.trans (runSteps_succ_of_quiet (i := .hsLow) hs rfl rfl) ?_
  refine Eq.trans (runSteps_succ_of_quiet (i := .hsHold) hs rfl rfl) ?_
  refine Eq.trans (runSteps_succ_of_quiet (i := .hsHigh) hs rfl rfl) ?_
  refine Eq.trans (runSteps_succ_of_quiet (i := .hsCfgIn) hs rfl rfl) ?_
  simp [State.emit, State.setPh]

/-- Settles O5: the five steps of the handshake, and a sixth, which is a tick of ACK1. -/
theorem handshakeIsFiveEvents : Obligations.HandshakeIsFiveEvents := by
  intro s hs hp
  have hrun := runSteps_handshake hs hp
  refine ⟨hrun, _, (runSteps_add hrun).trans (runSteps_succ_of_quiet (k := 0) (i := .ack1) hs rfl rfl), ?_⟩
  rw [State.tick_trace (State.finishAck_trace _)]
  exact List.append_assoc ..

/-! The acknowledgement waits. -/

/-- R98 to R100, R84: the three acknowledgement waits are ticks, each with its level and its next phase. -/
theorem exec_ack_eq_tick {level : Level} {nxt : PhaseCode}
    (hmem : (i, level, nxt) ∈ [(Instr.ack1, 1#1, 0x0A#5), (.ack2, 0#1, 0x0B#5), (.ack3, 1#1, 0x0C#5)]) :
    exec i s = .next (s.tick level (State.finishAck nxt)) := by
  simp only [List.mem_cons, Prod.mk.injEq, List.not_mem_nil, or_false] at hmem
  obtain ⟨rfl, rfl, rfl⟩ | ⟨rfl, rfl, rfl⟩ | ⟨rfl, rfl, rfl⟩ := hmem <;> rfl

/-- Settles O6: by the outcomes of a tick and, where it ends the wait, by whether the result is the sentinel. -/
theorem transmissionWaitTick : Obligations.TransmissionWaitTick := by
  intro s i level nxt hmem
  rw [exec_ack_eq_tick hmem]
  refine ⟨fun h hc => ?_, fun h hc => ?_, fun h hc => ?_, fun h hc => ?_⟩
  · exact congrArg _ ((State.tick_of_ne h).trans (State.finishAck_of_ne hc))
  · exact congrArg _ ((State.tick_of_ne h).trans (State.finishAck_of_timeout hc))
  · exact congrArg _ ((State.tick_of_ceiling h hc).trans (State.finishAck_of_timeout rfl))
  · exact congrArg _ (State.tick_of_eq h hc)

/-! Which instruction enters a phase. -/

/-- The codes an instruction can write to PH, whatever PH held (R63, R141). -/
def phaseTargets : Instr → List PhaseCode
  | .idle => []
  | .guardGet => [Phase.hsCfgOut, Phase.guardSet]
  | .guardSet => [Phase.guardSettle]
  | .guardSettle => [Phase.hsCfgOut]
  | .hsCfgOut => [Phase.hsLow]
  | .hsLow => [Phase.hsHold]
  | .hsHold => [Phase.hsHigh]
  | .hsHigh => [Phase.hsCfgIn]
  | .hsCfgIn => [Phase.ack1]
  | .ack1 => [Phase.ack2, Phase.restore]
  | .ack2 => [Phase.ack3, Phase.restore]
  | .ack3 => [Phase.critEnter, Phase.restore]
  | .critEnter => [Phase.rxLow]
  | .rxLow => [Phase.rxHigh]
  | .rxHigh => [Phase.rxLow, Phase.critExit]
  | .critExit => [Phase.slice]
  | .slice => [Phase.check, Phase.restore]
  | .check => [Phase.commit, Phase.restore]
  | .commit => [Phase.restore]
  | .restore => [Phase.idle]
  | .start _ _ => [Phase.guardGet]

/-- An instruction leaves PH alone or writes one of its targets. -/
theorem exec_ph (h : exec i s = .next t) : t.ph ∈ s.ph :: phaseTargets i := by
  cases i
  case idle => cases h; exact List.mem_cons_self
  case guardGet =>
    cases h
    rw [State.setPh_ph]
    split <;> simp [phaseTargets]
  case ack1 | ack2 | ack3 => cases h; exact State.tick_ph (State.finishAck_ph _) s
  case rxLow =>
    obtain ⟨-, rfl⟩ := State.receptionTick_next h
    exact State.tick_ph State.finishLow_ph s
  case rxHigh =>
    obtain ⟨-, rfl⟩ := State.receptionTick_next h
    exact State.tick_ph State.finishHigh_ph s
  case slice => obtain rfl | rfl := exec_slice_cases h <;> simp [phaseTargets]
  case check => obtain rfl | rfl := exec_check_cases h <;> simp [phaseTargets]
  case start => obtain hp | ⟨-, hp⟩ := exec_start_ph h <;> simp [phaseTargets, hp]
  all_goals
    cases h
    exact List.mem_cons_of_mem _ (List.mem_singleton_self _)

/-- A phase is entered only by an instruction that has it among its targets. -/
theorem mem_phaseTargets_of_entered (h : exec i s = .next t) (hs : s.ph ≠ c) (ht : t.ph = c) :
    c ∈ phaseTargets i :=
  (List.mem_cons.mp (ht ▸ exec_ph h)).resolve_left hs.symm

theorem guardSet_mem_phaseTargets (h : Phase.guardSet ∈ phaseTargets i) : i = .guardGet := by
  cases i <;> simp [phaseTargets] at h ⊢

theorem restore_mem_phaseTargets (h : Phase.restore ∈ phaseTargets i) :
    i ∈ [Instr.commit, .ack1, .ack2, .ack3, .slice, .check] := by
  cases i <;> simp [phaseTargets] at h ⊢

theorem idle_mem_phaseTargets (h : Phase.idle ∈ phaseTargets i) : i = .restore := by
  cases i <;> simp [phaseTargets] at h ⊢

/-- GUARD_GET goes to GUARD_SET only from a line that is not high, whose level it has saved (R90). -/
theorem exec_guardGet_orig (h : exec .guardGet s = .next t) (ht : t.ph = Phase.guardSet) : t.orig = 0#1 := by
  cases h
  have hlow : s.pinAnswer ≠ 1#1 := fun hhigh => by simp [hhigh] at ht
  exact (BitVec.eq_zero_or_eq_one s.pinAnswer).resolve_right hlow

/-- Settles O3: the two next states, and GUARD_GET as the one way into GUARD_SET. -/
theorem guardDrivesHighAndSettles : Obligations.GuardDrivesHighAndSettles := by
  refine ⟨fun _ => ⟨rfl, rfl⟩, fun i s t h hs ht => ?_⟩
  obtain rfl := guardSet_mem_phaseTargets (mem_phaseTargets_of_entered h hs ht)
  exact ⟨rfl, exec_guardGet_orig h ht⟩

/-- Settles O19: RESTORE's next state, and the instructions with RESTORE or IDLE among their targets. -/
theorem restoreDrivesTheSavedLevel : Obligations.RestoreDrivesTheSavedLevel :=
  ⟨fun _ => rfl, fun _ _ _ h =>
    ⟨fun hs ht => restore_mem_phaseTargets (mem_phaseTargets_of_entered h hs ht),
      fun hs ht => idle_mem_phaseTargets (mem_phaseTargets_of_entered h hs ht)⟩⟩

/-! The line after a read. -/

/-- That the line is restored speaks of PH, the trace and ORIG only. -/
theorem State.LineRestored.congr (h : s.LineRestored) (hph : t.ph = s.ph) (htrace : t.trace = s.trace)
    (horig : t.orig = s.orig) : t.LineRestored := by
  unfold State.LineRestored at h ⊢
  rwa [hph, htrace, horig]

/-- RESTORE's last port operation drives ORIG (R101). -/
theorem State.restoreLine_lineRestored (s : State) : s.restoreLine.LineRestored :=
  fun _ => .inr (by simp)

/-- START begins a read or changes nothing (R141, R142). -/
theorem State.LineRestored.startRead (h : s.LineRestored) (v : Flag) : (s.startRead v).LineRestored := by
  obtain ⟨-, hstart⟩ | ⟨-, hstart⟩ := State.startRead_cases v s <;> rw [hstart]
  · exact fun hidle => by simp at hidle
  · exact h

/-- A micro-operation in its own phase keeps the line restored: in IDLE it does nothing, and IDLE is entered from
RESTORE only. -/
theorem exec_keeps_lineRestored (h : s.LineRestored) (hi : decodePhase s.ph = .ok i) (he : exec i s = .next t) :
    t.LineRestored := by
  by_cases hs : s.ph = Phase.idle
  · rw [hs] at hi
    cases hi
    cases he
    exact h
  · intro ht
    obtain rfl := idle_mem_phaseTargets (mem_phaseTargets_of_entered he hs ht)
    cases he
    exact s.restoreLine_lineRestored ht

/-- Settles O45: by the kinds of step; a host access touches neither trace nor ORIG, and a reset begins a new
trace. -/
theorem lineIsRestoredOnEveryExit : Obligations.LineIsRestoredOnEveryExit := by
  intro s t h hstep
  have hpop : s.popTurn.LineRestored := h.congr rfl rfl rfl
  obtain ⟨i, -, hi, he⟩ | ⟨n, -, rfl⟩ | ⟨n, v, i, -, hw, he⟩ | ⟨n, v, -, -, rfl⟩ | ⟨-, hr⟩ := step_cases hstep
  · exact exec_keeps_lineRestored hpop hi he
  · exact hpop.congr rfl rfl rfl
  · obtain ⟨-, -, rfl⟩ := hostWriteInstr_some hw
    cases he
    exact (hpop.congr rfl rfl rfl : (s.popTurn.logHost _).LineRestored).startRead _
  · exact hpop.congr rfl rfl rfl
  · obtain ⟨-, rfl⟩ := State.takeReset_next hr
    exact fun _ => .inl rfl

end Sys2Proof.Machine
end

section
/-! SUPPORT. Signal Reception of 42_reception.md: the brackets and the ticks (O10, O7, O8), the recording of a whole
frame (O48), and what becomes of it from CRIT_EXIT to IDLE (O49). -/

namespace Sys2Proof.Machine

variable {s t : State}

/-! One micro-operation. -/

/-- Settles O10: the next states of CRIT_ENTER and CRIT_EXIT are the ones stated. -/
theorem criticalSectionBrackets : Obligations.CriticalSectionBrackets :=
  fun _ => ⟨rfl, rfl⟩

/-- R111: where IDX names a slot, RX_LOW is a tick. -/
theorem exec_rxLow_eq_tick (h : s.idx.toNat < 80) : exec .rxLow s = .next (s.tick levelRxLow State.finishLow) :=
  State.receptionTick_of_lt h

/-- R112: where IDX names a slot, RX_HIGH is a tick. -/
theorem exec_rxHigh_eq_tick (h : s.idx.toNat < 80) : exec .rxHigh s = .next (s.tick levelRxHigh State.finishHigh) :=
  State.receptionTick_of_lt h

/-- The wait for slot 79 is the last (R112). -/
theorem State.finishHigh_of_last {r : Nat} (h : s.idx.toNat = 79) :
    s.finishHigh r = (s.setSlot r).setPh Phase.critExit :=
  if_pos (BitVec.eq_of_toNat_eq h)

/-- After any other slot the next low phase is waited for (R112). -/
theorem State.finishHigh_of_ne_last {r : Nat} (h : s.idx.toNat ≠ 79) :
    s.finishHigh r = ((s.setSlot r).setIdx (s.idx + 1)).setPh Phase.rxLow :=
  if_neg fun hidx => h (congrArg BitVec.toNat hidx)

/-- Settles O7: by the outcomes of a tick. -/
theorem rxLowTick : Obligations.RxLowTick := by
  intro s hidx
  rw [exec_rxLow_eq_tick hidx]
  refine ⟨fun h => ?_, fun h hc => ?_, fun h hc => ?_⟩
  · exact congrArg _ (State.tick_of_ne h)
  · exact congrArg _ (State.tick_of_ceiling h hc)
  · exact congrArg _ (State.tick_of_eq h hc)

/-- Settles O8: by the outcomes of a tick and, where it ends the wait, by whether the slot is the last. -/
theorem rxHighTick : Obligations.RxHighTick := by
  intro s hidx
  rw [exec_rxHigh_eq_tick hidx]
  refine ⟨fun r hr => ?_, fun h hc => congrArg _ (State.tick_of_eq h hc)⟩
  have hend : s.tick levelRxHigh State.finishHigh = State.finishHigh r (s.afterPinGet.setCnt 0) := by
    obtain ⟨h, rfl⟩ | ⟨h, hc, rfl⟩ := hr
    · exact State.tick_of_ne h
    · exact State.tick_of_ceiling h hc
  rw [hend]
  refine ⟨fun hlast => ?_, fun hmore => ?_⟩
  · rw [State.finishHigh_of_last (by exact hlast), ← hlast]
    rfl
  · rw [State.finishHigh_of_ne_last (by exact hmore)]
    rfl

/-! The end of a high phase, register by register. -/

@[simp] theorem State.finishHigh_raw (r : Nat) (s : State) :
    (s.finishHigh r).raw = s.raw.setIfInBounds s.idx.toNat r := by
  obtain ⟨-, h⟩ | ⟨-, h⟩ := State.finishHigh_cases r s <;> simp [h]

@[simp] theorem State.finishHigh_answers (r : Nat) (s : State) : (s.finishHigh r).answers = s.answers := by
  obtain ⟨-, h⟩ | ⟨-, h⟩ := State.finishHigh_cases r s <;> simp [h]

/-- IDX goes up to 79 and stays there (R112). -/
theorem State.finishHigh_idx_toNat {r : Nat} (h : s.idx.toNat < 80) :
    (s.finishHigh r).idx.toNat = min (s.idx.toNat + 1) 79 := by
  by_cases hlast : s.idx.toNat = 79
  · simp [State.finishHigh_of_last hlast, hlast]
  · have hlt : s.idx.toNat < 79 := by omega
    rw [State.finishHigh_of_ne_last hlast, State.setPh_idx, State.setIdx_idx, idx_succ_toNat hlt]
    omega

theorem State.finishHigh_ph_eq (r : Nat) (s : State) :
    (s.finishHigh r).ph = if s.idx.toNat = 79 then Phase.critExit else Phase.rxLow := by
  split
  next hlast => rw [State.finishHigh_of_last hlast, State.setPh_ph]
  next hmore => rw [State.finishHigh_of_ne_last hmore, State.setPh_ph]

/-! From CRIT_EXIT to IDLE. -/

/-- Bit `7 - j` of a byte of the slicer is the `j`-th of its frame bits (R122). -/
theorem frameByte_getLsbD (raw : Vector Nat 80) (k : Fin 5) (j : Fin 8) :
    (frameByte raw k).getLsbD (7 - j.val) =
      decide (highCount raw ⟨8 * k.val + j.val, by omega⟩ > lowCount raw ⟨8 * k.val + j.val, by omega⟩) := by
  have hbit : (frameByte raw k).getLsbD (7 - j.val) = (byteBit raw k j).getLsbD 0 := by
    unfold frameByte
    simp only [BitVec.getLsbD_append]
    fin_cases j <;> rfl
  rw [hbit, byteBit, frameBit]
  split <;> simp [*]

/-- The bits of five bytes fix them. -/
theorem bytes_ext_bits {b d : Vector Byte 5}
    (h : ∀ (k : Fin 5) (j : Fin 8), b[k].getLsbD (7 - j.val) = d[k].getLsbD (7 - j.val)) : b = d := by
  refine Vector.ext fun k hk => BitVec.eq_of_getLsbD_eq fun n hn => ?_
  have hkn := h ⟨k, hk⟩ ⟨7 - n, by omega⟩
  rwa [show 7 - (7 - n) = n by omega] at hkn

theorem hasSentinel_eq_false {n : Nat} {raw : Vector Nat 80} (h : ∀ j : Fin 80, raw[j] ≠ n) :
    hasSentinel n raw = false := by
  refine decide_eq_false fun hmem => ?_
  obtain ⟨j, hj, hn⟩ := Vector.mem_iff_getElem.mp (Vector.mem_toList_iff.mp hmem)
  exact h ⟨j, hj⟩ hn

/-- SLICE without a sentinel (R120). -/
theorem exec_slice_of_no_sentinel (h : ∀ j : Fin 80, s.raw[j] ≠ s.params.timeout) :
    exec .slice s = .next ((s.setBuf (frameBytes s.raw)).setPh Phase.check) :=
  congrArg _ (if_neg (by simp [hasSentinel_eq_false h]))

/-- CHECK of a buffer whose checksum matches (R130). -/
theorem exec_check_of_eq (h : s.buf[4] = checksum s.buf) : exec .check s = .next (s.setPh Phase.commit) :=
  congrArg _ (if_pos h)

/-- CHECK of a buffer whose checksum does not match (R130). -/
theorem exec_check_of_ne (h : s.buf[4] ≠ checksum s.buf) : exec .check s = .next (s.fail .checksum) :=
  congrArg _ (if_neg h)

/-- CRIT_EXIT and SLICE after a reception without a sentinel (R113, R120). -/
theorem runSteps_slice (hs : s.HostQuiet) (hp : s.ph = Phase.critExit)
    (hslots : ∀ j : Fin 80, s.raw[j] ≠ s.params.timeout) :
    runSteps 2 s = .next { s with
      ph := Phase.check, crit := 0, buf := frameBytes s.raw, trace := s.trace ++ [.critExit] } := by
  refine Eq.trans (runSteps_succ_of_quiet (i := .critExit) hs (by rw [hp]; rfl) rfl) ?_
  exact runSteps_succ_of_quiet (i := .slice) hs rfl (exec_slice_of_no_sentinel hslots)

/-- CHECK, COMMIT and RESTORE deliver a valid buffer (R130, R132, R101). -/
theorem runSteps_deliver (hs : s.HostQuiet) (hp : s.ph = Phase.check) (hsum : s.buf[4] = checksum s.buf) :
    runSteps 3 s = .next { s with
      ph := Phase.idle, out := s.buf, outValid := 1, res := Res.ok, trace := s.trace ++ [.pinSet s.orig] } := by
  refine Eq.trans (runSteps_succ_of_quiet (i := .check) hs (by rw [hp]; rfl) (exec_check_of_eq hsum)) ?_
  refine Eq.trans (runSteps_succ_of_quiet (i := .commit) hs rfl rfl) ?_
  exact runSteps_succ_of_quiet (i := .restore) hs rfl rfl

/-- CHECK and RESTORE reject any other (R130, R173, R101). -/
theorem runSteps_reject (hs : s.HostQuiet) (hp : s.ph = Phase.check) (hsum : s.buf[4] ≠ checksum s.buf) :
    runSteps 2 s = .next { s with
      ph := Phase.idle, res := Res.checksum, trace := s.trace ++ [.pinSet s.orig] } := by
  refine Eq.trans (runSteps_succ_of_quiet (i := .check) hs (by rw [hp]; rfl) (exec_check_of_ne hsum)) ?_
  exact runSteps_succ_of_quiet (i := .restore) hs rfl rfl

/-! The recording of a frame. -/

/-- What reception keeps from the end of one wait to the end of the next: the state with PH, IDX, RAW, the trace
and the answers, which it writes, blanked. CNT it keeps, since every wait ends with 0 in it. -/
def State.outsideReception (s : State) : State :=
  { s with ph := 0, idx := 0, raw := Vector.replicate 80 0, trace := [], answers := [], draws := 0 }

theorem State.finishHigh_outsideReception (r : Nat) (s : State) :
    (s.finishHigh r).outsideReception = s.outsideReception := by
  obtain ⟨-, h⟩ | ⟨-, h⟩ := State.finishHigh_cases r s <;> rw [h] <;> rfl

theorem hostQuiet_of_outsideReception (h : t.outsideReception = s.outsideReception) (hs : s.HostQuiet) :
    t.HostQuiet :=
  (congrArg State.schedule h).trans hs

theorem cnt_of_outsideReception (h : t.outsideReception = s.outsideReception) : t.cnt = s.cnt :=
  (congrArg State.cnt h :)

theorem params_of_outsideReception (h : t.outsideReception = s.outsideReception) : t.params = s.params :=
  (congrArg State.params h :)

/-- A low phase of `n` further samples fills its slot with `n` (R81, R111). -/
theorem runSteps_rxLow {n : Nat} {rest : List Level} (hs : s.HostQuiet) (hp : s.ph = Phase.rxLow)
    (hidx : s.idx.toNat < 80) (hcnt : s.cnt = 0) (hn : n < s.params.timeout)
    (ha : s.answers = List.replicate n 0#1 ++ 1#1 :: rest) :
    ∃ t, runSteps (n + 1) s = .next t ∧ t.ph = Phase.rxHigh ∧ t.idx = s.idx + 1 ∧ t.answers = rest ∧
      t.raw = s.raw.setIfInBounds s.idx.toNat n ∧ t.outsideReception = s.outsideReception :=
  ⟨_, (State.waits_rxLow hs hp hidx).departs hcnt hn (by decide) ha, rfl, rfl, rfl, rfl, rfl⟩

/-- A high phase of `n` further samples fills its slot with `n`, and the last one ends reception (R81, R112). -/
theorem runSteps_rxHigh {n : Nat} {rest : List Level} (hs : s.HostQuiet) (hp : s.ph = Phase.rxHigh)
    (hidx : s.idx.toNat < 80) (hcnt : s.cnt = 0) (hn : n < s.params.timeout)
    (ha : s.answers = List.replicate n 1#1 ++ 0#1 :: rest) :
    ∃ t, runSteps (n + 1) s = .next t ∧
      t.ph = (if s.idx.toNat = 79 then Phase.critExit else Phase.rxLow) ∧
      t.idx.toNat = min (s.idx.toNat + 1) 79 ∧ t.answers = rest ∧
      t.raw = s.raw.setIfInBounds s.idx.toNat n ∧ t.outsideReception = s.outsideReception :=
  ⟨_, (State.waits_rxHigh hs hp hidx).departs hcnt hn (by decide) ha, State.finishHigh_ph_eq ..,
    State.finishHigh_idx_toNat hidx, State.finishHigh_answers .., State.finishHigh_raw ..,
    State.finishHigh_outsideReception ..⟩

/-- One bit: its low phase and its high phase, each ended by the first sample of the other level. -/
theorem runSteps_bit {k l h : Nat} {rest : List Level} (hs : s.HostQuiet) (hp : s.ph = Phase.rxLow) (hk : k < 40)
    (hidx : s.idx.toNat = 2 * k) (hcnt : s.cnt = 0) (hl : l < s.params.timeout) (hh : h < s.params.timeout)
    (ha : s.answers = List.replicate l 0#1 ++ 1#1 :: (List.replicate h 1#1 ++ 0#1 :: rest)) :
    ∃ t, runSteps (l + h + 2) s = .next t ∧ t.ph = (if k + 1 = 40 then Phase.critExit else Phase.rxLow) ∧
      t.idx.toNat = min (2 * (k + 1)) 79 ∧ t.answers = rest ∧
      t.raw = (s.raw.setIfInBounds (2 * k) l).setIfInBounds (2 * k + 1) h ∧
      t.outsideReception = s.outsideReception := by
  obtain ⟨u, hlow, hup, hui, hua, hur, huo⟩ := runSteps_rxLow hs hp (by omega) hcnt hl ha
  have hidx' : u.idx.toNat = 2 * k + 1 := by rw [hui, idx_succ_toNat (by omega), hidx]
  obtain ⟨t, hhigh, htp, hti, hta, htr, hto⟩ := runSteps_rxHigh (hostQuiet_of_outsideReception huo hs) hup
    (by omega) ((cnt_of_outsideReception huo).trans hcnt) (params_of_outsideReception huo ▸ hh) hua
  refine ⟨t, ?run, ?ph, ?idx, hta, ?raw, hto.trans huo⟩
  case run => rw [show l + h + 2 = l + 1 + (h + 1) by omega, runSteps_add hlow, hhigh]
  case ph =>
    rw [htp, hidx']
    exact if_congr (by omega) rfl rfl
  case idx => rw [hti, hidx']; rfl
  case raw => rw [htr, hur, hidx, hidx']

/-- The samples of one bit on the line of R115: its low phase, one 1, the rest of its high phase, one 0. -/
def bitAnswers (low high : Fin 40 → Nat) (i : Fin 40) : List Level :=
  List.replicate (low i) 0#1 ++ 1#1 :: (List.replicate (high i) 1#1 ++ [0#1])

/-- Reception begun in `s` stands in `t` after the first `k` bits of the line and before `rest`. -/
structure State.HasRecorded (low high : Fin 40 → Nat) (rest : List Level) (k : Nat) (s t : State) : Prop where
  ph : t.ph = if k = 40 then Phase.critExit else Phase.rxLow
  idx : t.idx.toNat = min (2 * k) 79
  answers : t.answers = ((List.finRange 40).drop k).flatMap (bitAnswers low high) ++ rest
  raw : ∀ i : Fin 40, i.val < k → t.raw[2 * i.val] = low i ∧ t.raw[2 * i.val + 1] = high i
  outside : t.outsideReception = s.outsideReception

section Frame

variable {low high : Fin 40 → Nat} {rest : List Level} {k : Nat}

/-- The bits to come begin with bit `k`. -/
theorem drop_finRange_eq_cons (hk : k < 40) :
    (List.finRange 40).drop k = ⟨k, hk⟩ :: (List.finRange 40).drop (k + 1) := by
  rw [List.drop_eq_getElem_cons (by simpa using hk), List.getElem_finRange]
  rfl

/-- Bit `k` is recorded after the bits before it. -/
theorem State.HasRecorded.next_bit (h : State.HasRecorded low high rest k s t) (hs : s.HostQuiet) (hcnt : s.cnt = 0)
    (hlt : ∀ i, low i < s.params.timeout ∧ high i < s.params.timeout) (hk : k < 40) :
    ∃ u, runSteps (low ⟨k, hk⟩ + high ⟨k, hk⟩ + 2) t = .next u ∧ State.HasRecorded low high rest (k + 1) s u := by
  obtain ⟨hlow, hhigh⟩ := params_of_outsideReception h.outside ▸ hlt ⟨k, hk⟩
  have hidx : t.idx.toNat = 2 * k := by rw [h.idx]; omega
  obtain ⟨u, hrun, hp, hidx', ha, hraw, hout⟩ := runSteps_bit (hostQuiet_of_outsideReception h.outside hs)
    (h.ph.trans (if_neg hk.ne)) hk hidx ((cnt_of_outsideReception h.outside).trans hcnt) hlow hhigh
    (rest := ((List.finRange 40).drop (k + 1)).flatMap (bitAnswers low high) ++ rest)
    (by simp [h.answers, drop_finRange_eq_cons hk, bitAnswers])
  refine ⟨u, hrun, hp, hidx', ha, fun i hi => ?_, hout.trans h.outside⟩
  obtain hik | rfl : i.val < k ∨ i = ⟨k, hk⟩ := by
    rw [Fin.ext_iff]
    exact Nat.lt_succ_iff_lt_or_eq.mp hi
  · obtain ⟨h0, h1⟩ := h.raw i hik
    simp (disch := omega) only [hraw, Vector.getElem_setIfInBounds_ne, h0, h1, and_self]
  · simp [hraw]

/-- Reception up to bit `k`, in the steps its bits take (R115). -/
theorem State.HasRecorded.first_bits (h : State.HasRecorded low high rest 0 s s) (hs : s.HostQuiet) (hcnt : s.cnt = 0)
    (hlt : ∀ i, low i < s.params.timeout ∧ high i < s.params.timeout) (hk : k ≤ 40) :
    ∃ t, runSteps (((List.finRange 40).take k).map fun i => low i + high i + 2).sum s = .next t ∧
      State.HasRecorded low high rest k s t := by
  induction k with
  | zero => exact ⟨s, rfl, h⟩
  | succ k ih =>
    obtain ⟨t, hrun, ht⟩ := ih (by omega)
    obtain ⟨u, hbit, hu⟩ := ht.next_bit hs hcnt hlt hk
    refine ⟨u, ?_, hu⟩
    rw [List.take_add_one, List.getElem?_eq_getElem (by simpa using hk), List.getElem_finRange, List.map_append,
      List.sum_append, runSteps_add hrun]
    exact hbit

/-- CRIT_ENTER and the 80 waits (R110, R115). -/
theorem runSteps_reception (hs : s.HostQuiet) (hp : s.ph = Phase.critEnter) (hcnt : s.cnt = 0)
    (hlt : ∀ i, low i < s.params.timeout ∧ high i < s.params.timeout)
    (ha : s.answers = (List.finRange 40).flatMap (bitAnswers low high) ++ rest) :
    ∃ t, runSteps (1 + ∑ i, (low i + high i + 2)) s = .next t ∧
      State.HasRecorded low high rest 40 (s.setCrit 1) t := by
  obtain ⟨t, hrun, ht⟩ := State.HasRecorded.first_bits (low := low) (high := high) (rest := rest) (k := 40)
    (s := (((s.emit .critEnter).setCrit 1).setIdx 0).setPh Phase.rxLow)
    ⟨rfl, rfl, ha, fun i hi => absurd hi (Nat.not_lt_zero _), rfl⟩ hs hcnt hlt le_rfl
  refine ⟨t, ?_, ht.ph, ht.idx, ht.answers, ht.raw, ht.outside⟩
  rw [Nat.add_comm, runSteps_succ_of_quiet (i := .critEnter) hs (by rw [hp]; rfl) rfl, Fin.sum_univ_def]
  exact hrun

/-- A slot is one of the two of some bit (R24). -/
theorem State.HasRecorded.slot_ne_timeout (h : State.HasRecorded low high rest 40 s t)
    (hlt : ∀ i, low i < s.params.timeout ∧ high i < s.params.timeout) (j : Fin 80) :
    t.raw[j] ≠ t.params.timeout := by
  obtain ⟨i, hj⟩ := Nat.even_or_odd' j.val
  have hi : i < 40 := by omega
  obtain ⟨hlow, hhigh⟩ := h.raw ⟨i, hi⟩ hi
  obtain ⟨hlow', hhigh'⟩ := hlt ⟨i, hi⟩
  rw [params_of_outsideReception h.outside]
  obtain hj | hj := hj
  · simpa [hj, hlow] using hlow'.ne
  · simpa [hj, hhigh] using hhigh'.ne

/-- The slicer reads from the recorded slots the bytes the line's comparisons spell (R121, R122). -/
theorem State.HasRecorded.frameBytes_eq {b : Vector Byte 5} (h : State.HasRecorded low high rest 40 s t)
    (hb : ∀ (k : Fin 5) (j : Fin 8), b[k].getLsbD (7 - j.val) =
      decide (high ⟨8 * k.val + j.val, by omega⟩ > low ⟨8 * k.val + j.val, by omega⟩)) :
    frameBytes t.raw = b := by
  refine bytes_ext_bits fun k j => ?_
  obtain ⟨hlow, hhigh⟩ := h.raw ⟨8 * k.val + j.val, by omega⟩ (by exact Fin.isLt _)
  rw [hb, show (frameBytes t.raw)[k] = frameByte t.raw k by simp [frameBytes], frameByte_getLsbD, lowCount, highCount,
    hlow, hhigh]

end Frame

/-- Settles O48: what has been recorded after bit 40, field by field. -/
theorem receptionRecordsTheFrame : Obligations.ReceptionRecordsTheFrame := by
  intro s low high rest hs hp hcnt _ hlt ha
  obtain ⟨t, hrun, ht⟩ := runSteps_reception hs hp hcnt hlt ha
  exact ⟨t, hrun, ht.ph, ht.answers, BitVec.eq_of_toNat_eq ht.idx,
    (cnt_of_outsideReception ht.outside).trans hcnt, fun i => ht.raw i i.isLt,
    (congrArg State.buf ht.outside :), (congrArg State.out ht.outside :), (congrArg State.outValid ht.outside :),
    (congrArg State.res ht.outside :), (congrArg State.orig ht.outside :), (congrArg State.var ht.outside :),
    (congrArg State.crit ht.outside :), (congrArg State.params ht.outside :)⟩

/-- Settles O49: the frame is recorded and sliced into `b`, and CHECK decides between the two ends. -/
theorem frameIsDeliveredOrRejected : Obligations.FrameIsDeliveredOrRejected := by
  intro s low high rest b hs hp hcnt _ hlt ha hb
  obtain ⟨t, hrec, ht⟩ := runSteps_reception hs hp hcnt hlt ha
  have hquiet : t.HostQuiet := hostQuiet_of_outsideReception ht.outside hs
  have hslice := runSteps_slice hquiet ht.ph (ht.slot_ne_timeout hlt)
  rw [ht.frameBytes_eq hb] at hslice
  refine ⟨fun hsum => ?delivered, fun hsum => ?rejected⟩
  case delivered =>
    have hend := (runSteps_add hslice).trans (runSteps_deliver hquiet rfl hsum)
    exact ⟨_, (runSteps_add hrec).trans hend, rfl, rfl, rfl, rfl, rfl⟩
  case rejected =>
    have hend := (runSteps_add hslice).trans (runSteps_reject hquiet rfl hsum)
    exact ⟨_, (runSteps_add hrec).trans hend, rfl, rfl, (congrArg State.outValid ht.outside :),
      (congrArg State.out ht.outside :), rfl⟩

end Sys2Proof.Machine
end

section
/-! SUPPORT. The Bit Decoder of 43_bit_slicer.md: what SLICE writes (O13, O14), a byte of the frame as a number (O15),
and what the slicer does not see (O16). -/

namespace Sys2Proof.Machine

variable {s : State} {raw raw' : Vector Nat 80}

/-! SLICE. -/

theorem hasSentinel_eq_true {n : Nat} {j : Fin 80} (h : raw[j] = n) : hasSentinel n raw = true :=
  decide_eq_true (Vector.mem_toList_iff.mpr (h ▸ Vector.getElem_mem j.isLt))

/-- SLICE with a sentinel (R120, R123). -/
theorem exec_slice_of_sentinel {j : Fin 80} (h : s.raw[j] = s.params.timeout) :
    exec .slice s = .next (s.fail .noData) :=
  congrArg _ (if_pos (hasSentinel_eq_true h))

/-- Settles O13: by the two outcomes of SLICE. -/
theorem sliceTestsTheSentinelFirst : Obligations.SliceTestsTheSentinelFirst := by
  intro s
  refine ⟨fun ⟨j, hj⟩ => ?sentinel, fun hslots => ?none⟩
  case sentinel => exact exec_slice_of_sentinel hj
  case none => exact ⟨frameBytes s.raw, exec_slice_of_no_sentinel hslots⟩

theorem frameBytes_getElem (raw : Vector Nat 80) (k : Fin 5) : (frameBytes raw)[k] = frameByte raw k := by
  simp [frameBytes]

/-- Settles O14: SLICE writes the five bytes of RAW, whose bits are the comparisons. -/
theorem sliceComparesEachPair : Obligations.SliceComparesEachPair := by
  intro s t hslots hexec k j
  cases (exec_slice_of_no_sentinel hslots).symm.trans hexec
  rw [State.setPh_buf, State.setBuf_buf, frameBytes_getElem]
  exact frameByte_getLsbD s.raw k j

/-! A byte as a number. -/

/-- The low `n` bits of a number, each with its weight. -/
theorem mod_two_pow_eq_sum_bits (x n : Nat) :
    x % 2 ^ n = ∑ i ∈ Finset.range n, (x.testBit i).toNat * 2 ^ i := by
  induction n with
  | zero => simp [Nat.mod_one]
  | succ n ih => rw [Finset.sum_range_succ, ← ih, Nat.mod_pow_succ, Nat.toNat_testBit, Nat.mul_comm]

/-- A byte is the weighted sum of its bits, most significant first. -/
theorem byte_toNat_eq_sum_bits (b : Byte) :
    b.toNat = ∑ j : Fin 8, (b.getLsbD (7 - j.val)).toNat * 2 ^ (7 - j.val) := by
  calc b.toNat
      = b.toNat % 2 ^ 8 := (Nat.mod_eq_of_lt b.isLt).symm
    _ = ∑ i ∈ Finset.range 8, (b.getLsbD i).toNat * 2 ^ i := mod_two_pow_eq_sum_bits b.toNat 8
    _ = ∑ j ∈ Finset.range 8, (b.getLsbD (7 - j)).toNat * 2 ^ (7 - j) :=
      (Finset.sum_range_reflect (fun i => (b.getLsbD i).toNat * 2 ^ i) 8).symm
    _ = ∑ j : Fin 8, (b.getLsbD (7 - j.val)).toNat * 2 ^ (7 - j.val) := Finset.sum_range _

/-- Settles O15: a byte is the sum of its bits, and the bits of the slicer's are comparisons. -/
theorem frameByteIsTheWeightedSum : Obligations.FrameByteIsTheWeightedSum := by
  intro raw k
  rw [byte_toNat_eq_sum_bits]
  refine Finset.sum_congr rfl fun j _ => ?_
  rw [frameByte_getLsbD]
  exact congrArg (· * 2 ^ (7 - j.val)) (Bool.cond_decide ..)

/-! What the slicer sees of a raw sample. -/

theorem frameBit_eq_one_iff {i : Fin 40} : frameBit raw i = 1#1 ↔ lowCount raw i < highCount raw i := by
  unfold frameBit
  split <;> simp_all

/-- The bytes depend on the 40 comparisons only (R124). -/
theorem frameBytes_congr
    (h : ∀ i, lowCount raw' i < highCount raw' i ↔ lowCount raw i < highCount raw i) :
    frameBytes raw' = frameBytes raw := by
  refine bytes_ext_bits fun k j => ?_
  rw [frameBytes_getElem, frameBytes_getElem, frameByte_getLsbD, frameByte_getLsbD]
  exact decide_eq_decide.mpr (h _)

theorem lowCount_map (f : Nat → Nat) (raw : Vector Nat 80) (i : Fin 40) :
    lowCount (raw.map f) i = f (lowCount raw i) :=
  Vector.getElem_map ..

theorem highCount_map (f : Nat → Nat) (raw : Vector Nat 80) (i : Fin 40) :
    highCount (raw.map f) i = f (highCount raw i) :=
  Vector.getElem_map ..

/-- Settles O16: a factor and a constant keep each comparison, and a 1 is a low count below its high count. -/
theorem slicerComparesOnlyWithinAPair : Obligations.SlicerComparesOnlyWithinAPair := by
  refine ⟨fun raw c hc => ?factor, fun raw raw' d h => ?constant, fun raw raw' i hlow hhigh hone => ?monotonic,
    fun raw i heq => ?equal⟩
  case factor =>
    refine frameBytes_congr fun i => ?_
    rw [lowCount_map, highCount_map, Nat.mul_lt_mul_right hc]
  case constant =>
    refine frameBytes_congr fun i => ?_
    obtain ⟨hlow, hhigh⟩ := h i
    rw [hlow, hhigh, Nat.add_lt_add_iff_right]
  case monotonic =>
    rw [frameBit_eq_one_iff] at hone ⊢
    exact (hlow.trans_lt hone).trans_le hhigh
  case equal => exact if_neg heq.not_gt

end Sys2Proof.Machine
end

section
/-! SUPPORT. The Checksum Validator and the commit of 44_checksum_commit.md: CHECK and COMMIT (O17, O18), and what the
host can read of OUT (O39, O40). -/

namespace Sys2Proof.Machine

variable {s t u : State} {i : Instr}

/-! CHECK and COMMIT. -/

/-- The checksum is the sum of bytes 0 to 3 modulo 256 (R131). -/
theorem checksum_toNat (b : Vector Byte 5) :
    (checksum b).toNat = (b[0].toNat + b[1].toNat + b[2].toNat + b[3].toNat) % 256 := by
  simp [checksum, BitVec.toNat_add]

/-- Settles O17: by the two outcomes of CHECK, with the checksum as a number. -/
theorem checkComparesTheSumModulo256 : Obligations.CheckComparesTheSumModulo256 := by
  intro s
  rw [← checksum_toNat]
  exact ⟨fun hsum => exec_check_of_eq (BitVec.eq_of_toNat_eq hsum),
    fun hsum => exec_check_of_ne fun heq => hsum (congrArg BitVec.toNat heq)⟩

theorem commit_mem_phaseTargets (h : Phase.commit ∈ phaseTargets i) : i = .check := by
  cases i <;> simp [phaseTargets] at h ⊢

/-- CHECK goes to COMMIT only with a buffer whose checksum matches (R130). -/
theorem exec_check_passed (h : exec .check s = .next t) (ht : t.ph = Phase.commit) : s.buf[4] = checksum s.buf := by
  by_contra hsum
  cases (exec_check_of_ne hsum).symm.trans h
  simp at ht

/-- Settles O18: COMMIT's next state, and CHECK as the one way into COMMIT. -/
theorem commitPublishesTheBuffer : Obligations.CommitPublishesTheBuffer := by
  refine ⟨fun _ => rfl, fun i s t h hs ht => ?_⟩
  obtain rfl := commit_mem_phaseTargets (mem_phaseTargets_of_entered h hs ht)
  exact ⟨rfl, exec_check_passed h ht⟩

/-! What the host can read. -/

/-- Only COMMIT writes OUT and OUT_VALID (R20). -/
theorem exec_keeps_out (hi : i ≠ .commit) (h : exec i s = .next t) : t.out = s.out ∧ t.outValid = s.outValid := by
  obtain ⟨-, -, -, -, -, hout, hvalid, -⟩ := registersHaveTheirWriters i s t h
  exact ⟨of_not_not fun hne => hi (hout hne), of_not_not fun hne => hi (hvalid hne)⟩

/-- Settles O39: by the kinds of step; COMMIT publishes BUF, whose checksum the invariant says matches. -/
theorem onlyValidatedBytesReachTheHost : Obligations.OnlyValidatedBytesReachTheHost := by
  intro s t h hstep hreset
  obtain ⟨i, -, hi, he⟩ | ⟨n, -, rfl⟩ | ⟨n, v, i, -, hw, he⟩ | ⟨n, v, -, -, rfl⟩ | ⟨hr, -⟩ := step_cases hstep
  · by_cases hcommit : i = .commit
    · have hp : s.ph = Phase.commit := (decodePhase_eq_commit_iff hi).mp hcommit
      subst hcommit
      cases he
      exact .inr ⟨hp, rfl, rfl, rfl, h.buf_sum hp⟩
    · exact .inl (exec_keeps_out (s := s.popTurn) hcommit he)
  · exact .inl ⟨rfl, rfl⟩
  · obtain ⟨-, -, rfl⟩ := hostWriteInstr_some hw
    exact .inl (exec_keeps_out (s := s.popTurn.logHost _) (by simp) he)
  · exact .inl ⟨rfl, rfl⟩
  · exact absurd hr hreset

/-! A read that has not ended with OK. -/

/-- In a state with the invariant where RES is OK, the sequencer is in RESTORE or IDLE (R36.8). -/
theorem State.Inv.ph_of_res_ok (h : s.Inv) (hok : s.res = Res.ok) : s.ph = Phase.restore ∨ s.ph = Phase.idle := by
  have hactive : ¬ (1 ≤ s.ph.toNat ∧ s.ph.toNat ≤ 0x12) := fun ⟨hlow, hhigh⟩ =>
    absurd (hok.symm.trans (h.active_res hlow hhigh)) (by decide)
  have hlegal := h.ph_legal
  obtain hp | hp : s.ph.toNat = 0x13 ∨ s.ph.toNat = 0 := by omega
  · exact .inl (BitVec.eq_of_toNat_eq hp)
  · exact .inr (BitVec.eq_of_toNat_eq hp)

/-- Once RES is OK the sequencer leaves it so: RESTORE and IDLE do not write it. -/
theorem exec_keeps_res_ok (h : s.Inv) (hi : decodePhase s.ph = .ok i) (he : exec i s = .next t)
    (hok : s.res = Res.ok) : t.res = Res.ok := by
  obtain hp | hp := h.ph_of_res_ok hok
  all_goals
    rw [hp] at hi
    cases hi
    cases he
    exact hok

/-- `u` has the invariant and, unless RES is OK in it, the OUT and OUT_VALID of `s`. -/
def State.KeepsOutUnlessOk (s u : State) : Prop :=
  u.Inv ∧ (u.res = Res.ok ∨ (u.out = s.out ∧ u.outValid = s.outValid))

/-- A micro-operation in its own phase keeps this: COMMIT writes RES OK, every other leaves OUT and OUT_VALID. -/
theorem exec_keeps_keepsOutUnlessOk (h : s.KeepsOutUnlessOk u) (hi : decodePhase u.ph = .ok i)
    (he : exec i u = .next t) : s.KeepsOutUnlessOk t := by
  obtain ⟨hinv, hok | ⟨hout, hvalid⟩⟩ := h
  · exact ⟨exec_keeps_inv hinv hi he, .inl (exec_keeps_res_ok hinv hi he hok)⟩
  · refine ⟨exec_keeps_inv hinv hi he, ?_⟩
    by_cases hcommit : i = .commit
    · subst hcommit
      cases he
      exact .inl rfl
    · obtain ⟨hout', hvalid'⟩ := exec_keeps_out hcommit he
      exact .inr ⟨hout'.trans hout, hvalid'.trans hvalid⟩

/-- Settles O40: by induction on the steps, all of which are the sequencer's. -/
theorem failedReadKeepsTheLastGoodBytes : Obligations.FailedReadKeepsTheLastGoodBytes := by
  intro s t k h hs _ hrun hres
  have hend : s.KeepsOutUnlessOk t := by
    refine sequencerSteps_induction (fun u v hu hstep => ?_) (sequencerSteps_of_runSteps hs hrun)
      ⟨h, .inr ⟨rfl, rfl⟩⟩
    obtain ⟨i, hi, he⟩ := State.stepBy_sequencer_next hstep
    exact exec_keeps_keepsOutUnlessOk hu hi he
  exact hend.2.resolve_left hres

end Sys2Proof.Machine
end

section
/-! SUPPORT. The host port of 45_host_commands.md: IDLE and START (O20 to O22), the writes that are ignored (O23, O24),
what the registers read (O25) and what they tell of the last read (O56). -/

namespace Sys2Proof.Machine

variable {s : State} {rest : List Turn} {n : HostReg} {v : Byte}

/-! The next turn, and what a host access does in it. -/

theorem State.nextTurn_cons {a : Turn} (h : s.schedule = a :: rest) : s.nextTurn = a := by
  simp [State.nextTurn, h]

theorem State.popTurn_cons {a : Turn} (h : s.schedule = a :: rest) : s.popTurn = { s with schedule := rest } := by
  simp [State.popTurn, h]

/-- A host read is recorded and changes nothing else (R44, R143). -/
theorem step_of_regRead (h : s.schedule = .regRead n :: rest) :
    step s = .next { s with schedule := rest, hostLog := s.hostLog ++ [.read n (s.regRead n)] } := by
  have hstep : step s = .next (s.popTurn.hostRead n) := by simp [step, State.nextTurn_cons h]
  rw [hstep, State.popTurn_cons h]
  rfl

/-- A host write that is no instruction is recorded and changes nothing else (R142, R144). -/
theorem step_of_ignoredWrite (h : s.schedule = .regWrite n v :: rest) (hi : hostWriteInstr n v = none) :
    step s = .next { s with schedule := rest, hostLog := s.hostLog ++ [.wrote n v] } := by
  have hstep : step s = .next (s.popTurn.logHost (.wrote n v)) := by simp [step, State.nextTurn_cons h, hi]
  rw [hstep, State.popTurn_cons h]
  rfl

/-! The CTRL byte, bit by bit (R65). -/

theorem byte_bit_zero_eq_one_iff : v.extractLsb' 0 1 = 1#1 ↔ v.getLsbD 0 = true := by
  rw [BitVec.getLsbD_eq_extractLsb', beq_iff_eq]

/-- The variant START reads from the byte is its bit 1. -/
theorem byte_variant_eq_ofBool (v : Byte) :
    BitVec.ofNat 1 (v.extractLsb' 1 1).toNat = BitVec.ofBool (v.getLsbD 1) := by
  rw [BitVec.getLsbD_eq_extractLsb']
  generalize v.extractLsb' 1 1 = b
  revert b
  decide

/-- A byte with bit 0 set, written to CTRL, is START with bit 1 as the variant. -/
theorem hostWriteInstr_command (h : v.getLsbD 0 = true) :
    hostWriteInstr 0 v = some (.start (v.extractLsb' 1 1).toNat (v.extractLsb' 2 6)) :=
  hostWriteInstr_of_decode (if_pos (byte_bit_zero_eq_one_iff.mpr h))

/-- A byte with bit 0 clear is no command. -/
theorem hostWriteInstr_noCommand (h : v.getLsbD 0 = false) : hostWriteInstr n v = none := by
  refine Option.eq_none_iff_forall_ne_some.mpr fun i hi => ?_
  obtain ⟨-, hbit, -⟩ := hostWriteInstr_some hi
  cases h.symm.trans (byte_bit_zero_eq_one_iff.mp hbit)

/-- No register but CTRL takes a command (R144). -/
theorem hostWriteInstr_otherRegister (h : n ≠ 0) : hostWriteInstr n v = none :=
  if_neg h

/-- A host write of a byte with bit 0 set to CTRL is recorded and runs START with bit 1 as VAR (R141). -/
theorem step_of_startWrite (h : s.schedule = .regWrite 0 v :: rest) (hv : v.getLsbD 0 = true) :
    step s = .next (State.startRead (BitVec.ofBool (v.getLsbD 1))
      { s with schedule := rest, hostLog := s.hostLog ++ [.wrote 0 v] }) := by
  rw [step_of_regWrite (State.nextTurn_cons h) (hostWriteInstr_command hv), State.popTurn_cons h, exec, execStart,
    byte_variant_eq_ofBool]
  rfl

/-! IDLE and START. -/

/-- Settles O21: START's one case in IDLE. -/
theorem startBeginsARead : Obligations.StartBeginsARead :=
  fun _ _ _ hp => congrArg _ (State.startRead_of_idle _ hp)

/-- Settles O20: by the kinds of step; IDLE, a read, an ignored write and a reset leave PH in IDLE. -/
theorem idleIsLeftOnlyByStart : Obligations.IdleIsLeftOnlyByStart := by
  refine ⟨fun _ => rfl, fun s t hs hstep ht => ?_⟩
  obtain ⟨i, -, hi, he⟩ | ⟨n, -, rfl⟩ | ⟨n, v, i, hturn, hw, he⟩ | ⟨n, v, -, -, rfl⟩ | ⟨-, hr⟩ := step_cases hstep
  · rw [hs] at hi
    cases hi
    cases he
    exact absurd hs ht
  · exact absurd hs ht
  · obtain ⟨rfl, hbit, rfl⟩ := hostWriteInstr_some hw
    obtain hkeep | ⟨-, hguard⟩ := exec_start_ph he
    · exact absurd (hkeep.trans hs) ht
    · exact ⟨v, hturn, byte_bit_zero_eq_one_iff.mp hbit, hguard⟩
  · exact absurd hs ht
  · obtain ⟨-, rfl⟩ := State.takeReset_next hr
    exact absurd rfl ht

/-- Settles O22: the write of a command, taken in IDLE. -/
theorem hostStartWriteStartsARead : Obligations.HostStartWriteStartsARead := by
  intro s byte rest hp hsched hbit
  exact (step_of_startWrite hsched hbit).trans (congrArg _ (State.startRead_of_idle _ (by exact hp)))

/-! What is ignored. -/

/-- Settles O23: START outside IDLE changes nothing, and a byte with bit 0 clear is no command. -/
theorem ignoredCtrlWrites : Obligations.IgnoredCtrlWrites := by
  refine ⟨fun s _ _ hp => congrArg _ (State.startRead_of_busy _ hp), fun s byte rest hsched h => ?_⟩
  cases hbit : byte.getLsbD 0 with
  | false => exact step_of_ignoredWrite hsched (hostWriteInstr_noCommand hbit)
  | true =>
    have hp : s.ph ≠ Phase.idle := h.resolve_right (by simp [hbit])
    exact (step_of_startWrite hsched hbit).trans (congrArg _ (State.startRead_of_busy _ (by exact hp)))

/-- Settles O24: no register but CTRL takes a command. -/
theorem writesToOtherRegistersAreIgnored : Obligations.WritesToOtherRegistersAreIgnored :=
  fun _ _ _ _ hsched hn => step_of_ignoredWrite hsched (hostWriteInstr_otherRegister hn)

/-! What the registers read. -/

/-- The registers 2 to 6 are OUT (R143). -/
theorem State.regRead_data (s : State) (k : Fin 5) : s.regRead (BitVec.ofNat 3 (k.val + 2)) = s.out[k] := by
  fin_cases k <;> rfl

/-- Settles O25: register by register, and the one next state of a host read. -/
theorem hostReads : Obligations.HostReads :=
  fun s => ⟨rfl, rfl, s.regRead_data, rfl, fun _ _ hsched => step_of_regRead hsched⟩

/-- Settles O56: in IDLE the look at the registers is a look at RES and OUT. -/
theorem hostLearnsTheResult : Obligations.HostLearnsTheResult := by
  intro s hp
  rw [State.readResult_idle hp]
  refine ⟨fun h => if_pos h, fun h => ?_, fun h => ?_, fun h => ?_, fun h => ?_⟩ <;> rw [h] <;> rfl

end Sys2Proof.Machine
end

section
/-! SUPPORT. The bound of 70_reset_and_hazards.md R195: a measure that every step of the sequencer brings down, so that
with the invariant IDLE is reached in as many steps as it says (for O58). -/

namespace Sys2Proof.Machine

variable {s t : State} {i : Instr}

/-! The sequencer goes on. -/

/-- With the invariant every instruction answers a next state: IDX names a slot (R20, R36). -/
theorem State.Inv.exec_next (h : s.Inv) (i : Instr) : ∃ t, exec i s = .next t := by
  have hidx : s.idx.toNat < 80 := Nat.lt_succ_of_le h.idx_le
  cases i
  case rxLow => exact ⟨_, exec_rxLow_eq_tick hidx⟩
  case rxHigh => exact ⟨_, exec_rxHigh_eq_tick hidx⟩
  all_goals exact ⟨_, rfl⟩

/-- With the invariant the sequencer has a step: PH decodes and its instruction goes on. -/
theorem State.Inv.sequencer_next (h : s.Inv) :
    ∃ i t, decodePhase s.ph = .ok i ∧ exec i s = .next t ∧ s.stepBy .sequencer = .next t := by
  obtain ⟨i, hi⟩ := decodePhase_legal h.ph_legal
  obtain ⟨t, he⟩ := h.exec_next i
  exact ⟨i, t, hi, he, State.stepBy_sequencer_of_exec hi he⟩

/-! The steps left. -/

/-- The micro-operations outside the waits that a read has still to make (R63). -/
def singlesLeft (c : PhaseCode) : Nat :=
  match c.toNat with
  | 0x01 => 14
  | 0x02 => 13
  | 0x03 => 12
  | 0x04 => 11
  | 0x05 => 10
  | 0x06 => 9
  | 0x07 => 8
  | 0x08 => 7
  | 0x09 | 0x0A | 0x0B | 0x0C => 6
  | 0x0D | 0x0E | 0x0F => 5
  | 0x10 => 4
  | 0x11 => 3
  | 0x12 => 2
  | 0x13 => 1
  | _ => 0

/-- The waits a read has still to make, each of TIMEOUT ticks at most: three acknowledgements and 80 slots
(R63). -/
def waitsLeft (c : PhaseCode) (idx : BitVec 7) : Nat :=
  match c.toNat with
  | 0x01 | 0x02 | 0x03 | 0x04 | 0x05 | 0x06 | 0x07 | 0x08 | 0x09 => 83
  | 0x0A => 82
  | 0x0B => 81
  | 0x0C => 80
  | 0x0D | 0x0E => 80 - idx.toNat
  | _ => 0

/-- A bound on the steps from the beginning of the phase on until IDLE. -/
def State.phaseBudget (s : State) : Nat := singlesLeft s.ph + s.params.timeout * waitsLeft s.ph s.idx

/-- A bound on the steps until IDLE: CNT of them are made (R195). -/
def State.stepsLeft (s : State) : Nat := s.phaseBudget - s.cnt

theorem State.phaseBudget_guardGet (hp : s.ph = Phase.guardGet) : s.phaseBudget = 14 + 83 * s.params.timeout := by
  rw [State.phaseBudget, hp, Nat.mul_comm]
  rfl

/-- Away from a wait, a next state with a lower budget has fewer steps left. -/
theorem stepsLeft_lt_of_phaseBudget_lt (hcnt : s.cnt = 0) (h : t.phaseBudget < s.phaseBudget) :
    t.stepsLeft < s.stepsLeft := by
  unfold State.stepsLeft
  omega

/-- A tick leaves fewer steps: it counts, or it ends the wait, if that takes the TIMEOUT ticks of the wait out of
the budget. -/
theorem State.tick_stepsLeft {level : Level} {finish : Nat → State → State} (hcnt : s.cnt < s.params.timeout)
    (hend : ∀ r, (finish r (s.afterPinGet.setCnt 0)).phaseBudget + s.params.timeout ≤ s.phaseBudget) :
    (s.tick level finish).stepsLeft < s.stepsLeft := by
  have ends : ∀ r, (finish r (s.afterPinGet.setCnt 0)).stepsLeft < s.stepsLeft := fun r => by
    have := hend r
    unfold State.stepsLeft
    omega
  obtain ⟨-, ht⟩ | ⟨-, -, ht⟩ | ⟨-, -, ht⟩ := State.tick_cases level finish s <;> rw [ht]
  · exact ends _
  · exact ends _
  · have hroom := hend 0
    show s.phaseBudget - (s.cnt + 1) < s.phaseBudget - s.cnt
    omega

/-- The end of an acknowledgement wait, by NoSignal or in the next phase, takes the wait out of the budget. -/
theorem State.finishAck_phaseBudget {c : PhaseCode} (r : Nat) (hsingle : singlesLeft c = singlesLeft s.ph)
    (hpos : 1 ≤ singlesLeft s.ph) (hwait : waitsLeft c s.idx + 1 = waitsLeft s.ph s.idx) :
    (s.finishAck c r).phaseBudget + s.params.timeout ≤ s.phaseBudget := by
  have hbudget : s.phaseBudget = singlesLeft c + s.params.timeout * waitsLeft c s.idx + s.params.timeout := by
    rw [State.phaseBudget, ← hwait, ← hsingle, Nat.mul_succ, Nat.add_assoc]
  obtain ⟨-, ht⟩ | ⟨-, ht⟩ := State.finishAck_cases c r s <;> rw [ht, hbudget]
  · show 1 + s.params.timeout * 0 + s.params.timeout ≤ _
    omega
  · exact le_rfl

/-- In reception the budget is that of the slots from IDX on, CRIT_EXIT and what follows it. -/
theorem State.phaseBudget_reception (hp : s.ph ∈ [Phase.rxLow, Phase.rxHigh]) :
    s.phaseBudget = 5 + s.params.timeout * (80 - s.idx.toNat) := by
  simp only [List.mem_cons, List.not_mem_nil, or_false] at hp
  obtain hp | hp := hp <;> rw [State.phaseBudget, hp] <;> rfl

/-- The end of a reception wait before the last takes the wait out of the budget. -/
theorem State.nextSlot_phaseBudget {c : PhaseCode} (r : Nat) (hp : s.ph ∈ [Phase.rxLow, Phase.rxHigh])
    (hc : c ∈ [Phase.rxLow, Phase.rxHigh]) (hidx : s.idx.toNat < 79) :
    (((s.setSlot r).setIdx (s.idx + 1)).setPh c).phaseBudget + s.params.timeout ≤ s.phaseBudget := by
  have hslots : 80 - s.idx.toNat = 80 - (s.idx + 1).toNat + 1 := by
    rw [idx_succ_toNat hidx]
    omega
  rw [State.phaseBudget_reception hp, State.phaseBudget_reception (by exact hc), hslots, Nat.mul_succ, Nat.add_assoc]
  exact le_rfl

/-- So does the end of the last one, which leaves reception (R112). -/
theorem State.finishHigh_phaseBudget (r : Nat) (hp : s.ph = Phase.rxHigh) (hidx : s.idx.toNat < 80) :
    (s.finishHigh r).phaseBudget + s.params.timeout ≤ s.phaseBudget := by
  have hmem : s.ph ∈ [Phase.rxLow, Phase.rxHigh] := by simp [hp]
  by_cases hlast : s.idx.toNat = 79
  · rw [State.finishHigh_of_last hlast, State.phaseBudget_reception hmem, hlast]
    show 5 + s.params.timeout * 0 + s.params.timeout ≤ _
    omega
  · rw [State.finishHigh_of_ne_last hlast]
    exact State.nextSlot_phaseBudget r hmem (by decide) (by omega)

/-- R63, R195: outside IDLE a micro-operation in its own phase leaves fewer steps. -/
theorem exec_stepsLeft (h : s.Inv) (hp : s.ph ≠ Phase.idle) (hi : decodePhase s.ph = .ok i)
    (he : exec i s = .next t) : t.stepsLeft < s.stepsLeft := by
  have hph : encode i = .phase s.ph := decodePhase_ok hi
  have hidx := h.idx_le
  cases i <;> simp only [encode, CodeWord.phase.injEq, reduceCtorEq] at hph
  case idle => exact absurd hph.symm hp
  case ack1 | ack2 | ack3 =>
    cases he
    refine State.tick_stepsLeft h.cnt_lt fun r => State.finishAck_phaseBudget (s := s.afterPinGet.setCnt 0) r ?_ ?_ ?_
    all_goals simp [singlesLeft, waitsLeft, ← hph]
  case rxLow =>
    obtain ⟨-, rfl⟩ := State.receptionTick_next he
    have heven := h.idx_even hph.symm
    exact State.tick_stepsLeft h.cnt_lt fun r => State.nextSlot_phaseBudget (s := s.afterPinGet.setCnt 0) r
      (by simp [← hph]) (by decide) (show s.idx.toNat < 79 by omega)
  case rxHigh =>
    obtain ⟨-, rfl⟩ := State.receptionTick_next he
    exact State.tick_stepsLeft h.cnt_lt fun r => State.finishHigh_phaseBudget (s := s.afterPinGet.setCnt 0) r
      hph.symm (Nat.lt_succ_of_le hidx)
  case guardGet =>
    cases he
    refine stepsLeft_lt_of_phaseBudget_lt (h.cnt_eq_zero (by simp [← hph])) ?_
    by_cases hhigh : s.pinAnswer = Level.high <;> simp [State.phaseBudget, singlesLeft, waitsLeft, ← hph, hhigh]
  case slice =>
    refine stepsLeft_lt_of_phaseBudget_lt (h.cnt_eq_zero (by simp [← hph])) ?_
    obtain rfl | rfl := exec_slice_cases he <;> simp [State.phaseBudget, singlesLeft, waitsLeft, ← hph]
  case check =>
    refine stepsLeft_lt_of_phaseBudget_lt (h.cnt_eq_zero (by simp [← hph])) ?_
    obtain rfl | rfl := exec_check_cases he <;> simp [State.phaseBudget, singlesLeft, waitsLeft, ← hph]
  all_goals
    cases he
    refine stepsLeft_lt_of_phaseBudget_lt (h.cnt_eq_zero (by simp [← hph])) ?_
    simp [State.phaseBudget, singlesLeft, waitsLeft, ← hph]

/-! The end of the read. -/

/-- With the invariant as many steps as are left bring the sequencer to IDLE. -/
theorem sequencerSteps_reach_idle {k : Nat} (h : s.Inv) (hk : s.stepsLeft ≤ k) :
    ∃ t, sequencerSteps k s = .next t ∧ t.ph = Phase.idle := by
  induction k generalizing s with
  | zero =>
    by_cases hp : s.ph = Phase.idle
    · exact ⟨s, rfl, hp⟩
    · obtain ⟨i, t, hi, he, -⟩ := h.sequencer_next
      exact absurd (exec_stepsLeft h hp hi he) (by omega)
  | succ k ih =>
    by_cases hp : s.ph = Phase.idle
    · exact ⟨s, sequencerSteps_idle _ hp, hp⟩
    · obtain ⟨i, u, hi, he, hstep⟩ := h.sequencer_next
      have hless := exec_stepsLeft h hp hi he
      obtain ⟨t, hrun, ht⟩ := ih (exec_keeps_inv h hi he) (by omega)
      exact ⟨t, by simp only [sequencerSteps, hstep, hrun], ht⟩

/-- The invariant and, in IDLE, a result: what a read that has begun has until its end (R36.8). -/
def State.HasResultInIdle (s : State) : Prop :=
  s.Inv ∧ (s.ph = Phase.idle → s.res ≠ Res.none)

/-- IDLE does nothing, and is entered from RESTORE only, with the result written before. -/
theorem exec_keeps_hasResultInIdle (h : s.HasResultInIdle) (hi : decodePhase s.ph = .ok i)
    (he : exec i s = .next t) : t.HasResultInIdle := by
  obtain ⟨hinv, hres⟩ := h
  refine ⟨exec_keeps_inv hinv hi he, fun ht => ?_⟩
  by_cases hs : s.ph = Phase.idle
  · rw [hs] at hi
    cases hi
    cases he
    exact hres hs
  · obtain rfl := idle_mem_phaseTargets (mem_phaseTargets_of_entered he hs ht)
    have hrestore : encode .restore = .phase s.ph := decodePhase_ok hi
    cases he
    exact hinv.restore_res (CodeWord.phase.inj hrestore).symm

/-- R195: from GUARD_GET, IDLE is reached with a result. -/
theorem sequencerSteps_end_read {k : Nat} (h : s.Inv) (hp : s.ph = Phase.guardGet)
    (hk : 14 + 83 * s.params.timeout ≤ k) :
    ∃ t, sequencerSteps k s = .next t ∧ t.ph = Phase.idle ∧ t.Inv ∧ t.res ≠ Res.none := by
  have hbound : s.stepsLeft ≤ k := (Nat.sub_le _ _).trans ((State.phaseBudget_guardGet hp).trans_le hk)
  obtain ⟨t, hrun, ht⟩ := sequencerSteps_reach_idle h hbound
  have hend : t.HasResultInIdle := by
    refine sequencerSteps_induction (fun u v hu hstep => ?_) hrun ⟨h, fun hq => absurd (hp.symm.trans hq) (by decide)⟩
    obtain ⟨i, hi, he⟩ := State.stepBy_sequencer_next hstep
    exact exec_keeps_hasResultInIdle hu hi he
  exact ⟨t, hrun, ht, hend.1, hend.2 ht⟩

end Sys2Proof.Machine
end

section
/-! SUPPORT. The host's protocol for one read (45_host_commands.md R145) as a whole: what has come of a call that
returns (O57), and that it returns (O58). -/

namespace Sys2Proof.Machine

variable {s t u : State} {i : Instr} {gaps rest : List Nat}

/-! The writes of a call. -/

/-- Whether a host access is a write. -/
def HostEvent.isWrite : HostEvent → Bool
  | .wrote _ _ => true
  | .read _ _ => false

/-- Of the accesses made from `s` to `t`, those that are writes are `writes`, in order. -/
def State.WroteTo (s t : State) (writes : List HostEvent) : Prop :=
  ∃ made, t.hostLog = s.hostLog ++ made ∧ made.filter HostEvent.isWrite = writes

theorem State.wroteTo_nil_of_hostLog_eq (h : t.hostLog = s.hostLog) : s.WroteTo t [] :=
  ⟨[], h.trans (List.append_nil _).symm, rfl⟩

theorem State.WroteTo.trans {a b : List HostEvent} (h : s.WroteTo u a) (h' : u.WroteTo t b) :
    s.WroteTo t (a ++ b) := by
  obtain ⟨made, hlog, hwrites⟩ := h
  obtain ⟨made', hlog', hwrites'⟩ := h'
  exact ⟨made ++ made', by rw [hlog', hlog, List.append_assoc], by rw [List.filter_append, hwrites, hwrites']⟩

theorem State.hostRead_wroteTo (n : HostReg) (s : State) : s.WroteTo (s.hostRead n) [] :=
  ⟨[.read n (s.regRead n)], rfl, rfl⟩

/-! Polling. -/

/-- No micro-operation writes VAR or the host log: START alone writes VAR (R20). -/
theorem sequencer_keeps_var_hostLog (hi : decodePhase s.ph = .ok i) (he : exec i s = .next t) :
    t.var = s.var ∧ t.hostLog = s.hostLog := by
  obtain ⟨-, -, -, -, -, -, -, -, hvar, -, -, -, hlog, -⟩ := registersHaveTheirWriters i s t he
  refine ⟨of_not_not fun hne => ?_, hlog⟩
  obtain ⟨v, r, rfl⟩ := hvar hne
  cases decodePhase_ok hi

/-- What steps of the sequencer and host reads leave, from `s` to `u`: the invariant, the last good bytes unless RES
is OK, VAR, and no write; and from IDLE, everything but the host log. -/
structure State.PolledTo (s u : State) : Prop where
  keepsOut : s.KeepsOutUnlessOk u
  var : u.var = s.var
  wrote : s.WroteTo u []
  idle : s.ph = Phase.idle → u = { s with hostLog := u.hostLog }

theorem State.Inv.polledTo_self (h : s.Inv) : s.PolledTo s :=
  ⟨⟨h, .inr ⟨rfl, rfl⟩⟩, rfl, State.wroteTo_nil_of_hostLog_eq rfl, fun _ => rfl⟩

theorem State.PolledTo.hostRead (h : s.PolledTo u) (n : HostReg) : s.PolledTo (u.hostRead n) := by
  obtain ⟨⟨hinv, hout⟩, hvar, hwrote, hidle⟩ := h
  exact ⟨⟨hinv.hostRead n, hout⟩, hvar, hwrote.trans (u.hostRead_wroteTo n),
    fun hs => congrArg (State.logHost (.read n (u.regRead n))) (hidle hs)⟩

theorem State.PolledTo.stepBy_sequencer (h : s.PolledTo u) (hstep : u.stepBy .sequencer = .next t) :
    s.PolledTo t := by
  obtain ⟨i, hi, he⟩ := State.stepBy_sequencer_next hstep
  obtain ⟨hvar, hlog⟩ := sequencer_keeps_var_hostLog hi he
  refine ⟨exec_keeps_keepsOutUnlessOk h.keepsOut hi he, hvar.trans h.var,
    h.wrote.trans (State.wroteTo_nil_of_hostLog_eq hlog), fun hs => ?_⟩
  have hu := h.idle hs
  have hp : u.ph = Phase.idle := (congrArg State.ph hu).trans hs
  rw [hp] at hi
  cases hi
  cases he
  exact hu

/-- A poll that has returned ends in IDLE and has only polled. -/
theorem pollUntilIdle_polledTo {status : Byte} (h : s.Inv)
    (hp : pollUntilIdle gaps s = .next (.returned (status, t) rest)) :
    s.PolledTo t ∧ t.ph = Phase.idle ∧ status = t.regRead 1 := by
  obtain ⟨hpolled, rfl, hbusy⟩ := pollUntilIdle_returned (fun _ _ hu hstep => hu.stepBy_sequencer hstep)
    (fun _ hu => hu.hostRead 1) hp h.polledTo_self
  exact ⟨hpolled, State.busy_eq_zero.mp ((statusBusy_regRead t).symm.trans hbusy), rfl⟩

/-- In IDLE the look at RES and DATA gives what the registers tell, and only reads. -/
theorem lookAtResult_returned_idle {r : ReadResult} (hs : s.ph = Phase.idle)
    (h : lookAtResult (s.regRead 1) s gaps = .next (.returned (r, t) rest)) :
    s.readResult = some r ∧ t = { s with hostLog := t.hostLog } ∧ s.WroteTo t [] := by
  have hbusy : statusBusy (s.regRead 1) ≠ 1 := by
    rw [show statusBusy (s.regRead 1) = 0 from (statusBusy_regRead s).trans (State.busy_eq_zero.mpr hs)]
    decide
  unfold lookAtResult at h
  rw [State.readResult, if_neg hbusy]
  by_cases hok : statusRes (s.regRead 1) = Res.ok
  · rw [if_pos hok] at h ⊢
    obtain ⟨⟨b, w⟩, g, hdata, hr⟩ := Call.andThen_eq_returned.mp h
    obtain ⟨rfl, rfl⟩ := readData_returned_idle hs hdata
    cases hr
    exact ⟨rfl, rfl, _, rfl, rfl⟩
  · rw [if_neg hok] at h ⊢
    split at h
    · cases h
      exact ⟨by rw [‹ErrorKind.ofCode _ = _›]; rfl, rfl, State.wroteTo_nil_of_hostLog_eq rfl⟩
    · cases h

/-- The registers of a block in IDLE tell of an error only if RES is not OK. -/
theorem State.res_ne_ok_of_error {k : ErrorKind} (hs : s.ph = Phase.idle) (h : s.readResult = some (.error k)) :
    s.res ≠ Res.ok := by
  intro hok
  rw [State.readResult_idle hs, if_pos hok] at h
  cases h

/-- And of bytes only if RES is OK, and those of OUT. -/
theorem State.res_ok_of_bytes {b : Vector Byte 5} (hs : s.ph = Phase.idle) (h : s.readResult = some (.bytes b)) :
    s.res = Res.ok ∧ b = s.out := by
  rw [State.readResult_idle hs] at h
  split at h
  · cases h
    exact ⟨‹_›, rfl⟩
  · cases hk : ErrorKind.ofCode s.res <;> simp [hk] at h

/-! The four steps. -/

/-- The state START leaves when the host writes it in `s`: the access is recorded and the block takes it. -/
def State.afterHostStart (v : Flag) (s : State) : State :=
  (s.logHost (.wrote 0 (startWord v))).startRead v

theorem State.Inv.afterHostStart (h : s.Inv) (v : Flag) : (s.afterHostStart v).Inv :=
  (h.logHost _).startRead v

/-- In IDLE it begins a read with the variant written, and leaves the last good bytes (R141). -/
theorem State.afterHostStart_of_idle (v : Flag) (hs : s.ph = Phase.idle) :
    (s.afterHostStart v).ph = Phase.guardGet ∧ (s.afterHostStart v).var = v ∧
      (s.afterHostStart v).out = s.out ∧ (s.afterHostStart v).outValid = s.outValid ∧
      (s.afterHostStart v).params = s.params ∧ s.WroteTo (s.afterHostStart v) [.wrote 0 (startWord v)] := by
  have hstart : s.afterHostStart v = _ := State.startRead_of_idle v (by exact hs)
  rw [hstart]
  exact ⟨rfl, rfl, rfl, rfl, rfl, _, rfl, rfl⟩

/-- In IDLE a write of START that has returned has been taken, whatever the gap before it. -/
theorem writeRegister_start_returned_idle {v : Flag} (hs : s.ph = Phase.idle)
    (h : writeRegister 0 (startWord v) s gaps = .next (.returned t rest)) : t = s.afterHostStart v := by
  obtain ⟨k, u, -, hk, hu⟩ := hostAccess_returned h
  rw [sequencerSteps_idle k hs] at hk
  cases hk
  cases (State.stepBy_startWord v s).symm.trans hu
  rfl

/-- The protocol polls until IDLE, writes START, polls until IDLE, and looks at the result (R145). -/
theorem performRead_returned {v : Flag} {r : ReadResult} (h : s.Inv)
    (hread : performRead v s gaps = .next (.returned (r, t) rest)) :
    ∃ begun ended : State, s.PolledTo begun ∧ begun.ph = Phase.idle ∧
      (begun.afterHostStart v).PolledTo ended ∧ ended.ph = Phase.idle ∧ ended.readResult = some r ∧
      t = { ended with hostLog := t.hostLog } ∧ ended.WroteTo t [] := by
  unfold performRead at hread
  obtain ⟨⟨_, begun⟩, _, hpoll, hread⟩ := Call.andThen_eq_returned.mp hread
  obtain ⟨hbegun, hidle, -⟩ := pollUntilIdle_polledTo h hpoll
  obtain ⟨started, _, hwrite, hread⟩ := Call.andThen_eq_returned.mp hread
  obtain rfl := writeRegister_start_returned_idle hidle hwrite
  obtain ⟨⟨status, ended⟩, _, hpoll', hread⟩ := Call.andThen_eq_returned.mp hread
  obtain ⟨hended, hidle', rfl⟩ := pollUntilIdle_polledTo (hbegun.keepsOut.1.afterHostStart v) hpoll'
  obtain ⟨hresult, ht, hwrote⟩ := lookAtResult_returned_idle hidle' hread
  exact ⟨begun, ended, hbegun, hidle, hended, hidle', hresult, ht, hwrote⟩

/-- Settles O57: START is the one write, the poll after it keeps VAR and, unless RES is OK, the last good bytes, and
the last look changes no register. -/
theorem readProtocolReturnsTheResult : Obligations.ReadProtocolReturnsTheResult := by
  intro s t v gaps rest r h hread
  obtain ⟨begun, ended, hbegun, hidle, hended, hidle', hresult, ht, hlook⟩ := performRead_returned h hread
  obtain ⟨-, hvar, hout, hvalid, -, hwrote⟩ := State.afterHostStart_of_idle v hidle
  obtain ⟨hinv, hkept⟩ := hended.keepsOut
  have hwrites : s.WroteTo t ([] ++ [.wrote 0 (startWord v)] ++ [] ++ []) :=
    ((hbegun.wrote.trans hwrote).trans hended.wrote).trans hlook
  rw [ht]
  refine ⟨hinv.hostLog _, hidle', hended.var.trans hvar, hresult, hwrites, fun k hs hr => ?_⟩
  have hbefore : begun.out = s.out ∧ begun.outValid = s.outValid := by
    rw [hbegun.idle hs]
    exact ⟨rfl, rfl⟩
  obtain ⟨hout', hvalid'⟩ := hkept.resolve_left (State.res_ne_ok_of_error hidle' (hr ▸ hresult))
  exact ⟨hout'.trans (hout.trans hbefore.1), hvalid'.trans (hvalid.trans hbefore.2)⟩

/-! That the protocol returns. -/

/-- An access after a gap in which the sequencer was not stopped returns. -/
theorem hostAccess_of_steps {a : Turn} {k : Nat} (hk : sequencerSteps k s = .next u) (ha : u.stepBy a = .next t) :
    hostAccess a s (k :: gaps) = .next (.returned t gaps) := by
  simp only [hostAccess, hk, ha]

theorem readRegister_of_steps {n : HostReg} {k : Nat} (hk : sequencerSteps k s = .next u) :
    readRegister n s (k :: gaps) = .next (.returned (u.regRead n, u.hostRead n) gaps) :=
  congrArg (Call.andThen · _) (hostAccess_of_steps hk (u.stepBy_regRead n))

/-- A poll whose first read finds the block in IDLE returns. -/
theorem pollUntilIdle_of_steps {k : Nat} (hk : sequencerSteps k s = .next u) (hu : u.ph = Phase.idle) :
    pollUntilIdle (k :: gaps) s = .next (.returned (u.regRead 1, u.hostRead 1) gaps) := by
  have hbusy : statusBusy (u.regRead 1) = 0 := (statusBusy_regRead u).trans (State.busy_eq_zero.mpr hu)
  rw [pollUntilIdle, readRegister_of_steps hk, Call.andThen_returned]
  exact if_pos hbusy

/-- In IDLE a read returns after any gap. -/
theorem readRegister_of_idle (n : HostReg) (k : Nat) (hs : s.ph = Phase.idle) :
    readRegister n s (k :: gaps) = .next (.returned (s.regRead n, s.hostRead n) gaps) :=
  readRegister_of_steps (sequencerSteps_idle k hs)

/-- In IDLE five gaps are enough for the reads of DATA. -/
theorem readData_of_idle (hs : s.ph = Phase.idle) (hgaps : 5 ≤ gaps.length) :
    ∃ a rest, readData s gaps = .next (.returned a rest) := by
  match gaps, hgaps with
  | k0 :: k1 :: k2 :: k3 :: k4 :: rest, _ =>
    exact ⟨_, rest,
      Call.andThen_eq_returned.mpr ⟨_, _, readRegister_of_idle 2 k0 hs,
      Call.andThen_eq_returned.mpr ⟨_, _, readRegister_of_idle 3 k1 hs,
      Call.andThen_eq_returned.mpr ⟨_, _, readRegister_of_idle 4 k2 hs,
      Call.andThen_eq_returned.mpr ⟨_, _, readRegister_of_idle 5 k3 hs,
      Call.andThen_eq_returned.mpr ⟨_, _, readRegister_of_idle 6 k4 hs, rfl⟩⟩⟩⟩⟩⟩

/-- A legal result code other than NONE and OK names an error (R64). -/
theorem errorKind_ofCode_of_res {c : ResCode} (hlegal : c.toNat ≤ 4) (hnone : c ≠ Res.none) (hok : c ≠ Res.ok) :
    ∃ k, ErrorKind.ofCode c = some k := by
  have key : ∀ c : ResCode, c.toNat ≤ 4 → c ≠ Res.none → c ≠ Res.ok → (ErrorKind.ofCode c).isSome := by decide
  exact Option.isSome_iff_exists.mp (key c hlegal hnone hok)

/-- In IDLE with a result the look at RES and DATA returns. -/
theorem lookAtResult_of_idle (h : s.Inv) (hs : s.ph = Phase.idle) (hres : s.res ≠ Res.none) (hgaps : 5 ≤ gaps.length) :
    ∃ a rest, lookAtResult (s.regRead 1) s gaps = .next (.returned a rest) := by
  have hcode : statusRes (s.regRead 1) = s.res := statusRes_regRead s
  unfold lookAtResult
  rw [hcode]
  by_cases hok : s.res = Res.ok
  · obtain ⟨⟨b, u⟩, rest, hdata⟩ := readData_of_idle hs hgaps
    exact ⟨_, rest, by rw [if_pos hok, hdata]; rfl⟩
  · obtain ⟨k, hk⟩ := errorKind_ofCode_of_res h.res_legal hres hok
    exact ⟨_, gaps, by rw [if_neg hok, hk]⟩

/-- Settles O58: IDLE lasts until START is written, and the read it begins is over at the next STATUS read. -/
theorem readProtocolEnds : Obligations.ReadProtocolEnds := by
  intro s v i j k gaps h hs hk hgaps
  have hinv : ((s.hostRead 1).afterHostStart v).Inv := (h.hostRead 1).afterHostStart v
  obtain ⟨hp, -, -, -, hparams, -⟩ := State.afterHostStart_of_idle (s := s.hostRead 1) v hs
  obtain ⟨u, hrun, hu, huinv, hres⟩ := sequencerSteps_end_read (k := k) hinv hp (hparams ▸ hk)
  obtain ⟨⟨r, t⟩, rest, hlook⟩ := lookAtResult_of_idle (huinv.hostRead 1) hu hres hgaps
  exact ⟨r, t, rest,
    Call.andThen_eq_returned.mpr ⟨_, _, pollUntilIdle_of_steps (sequencerSteps_idle i hs) hs,
    Call.andThen_eq_returned.mpr ⟨_, _, hostAccess_of_steps (sequencerSteps_idle j hs) (State.stepBy_startWord v _),
    Call.andThen_eq_returned.mpr ⟨_, _, pollUntilIdle_of_steps hrun hu, hlook⟩⟩⟩⟩

end Sys2Proof.Machine
end

section
/-! SUPPORT. The two calls of 46_surrounding_software.md that read the block: `Device.Measurements()` (O59) and
`ReadMeasurements()` (O60), each by what the call under it returns. -/

namespace Sys2Proof.Machine

variable {gaps rest : List Nat}

/-- `Device.Measurements()` runs the protocol with the Device's variant and takes its result (R155). -/
theorem Device.measurements_returned {d d' : Device} {reply : Reply Measurement}
    (h : d.measurements gaps = .next (.returned (reply, d') rest)) :
    ∃ (r : ReadResult) (u : State) (left : List Nat),
      performRead d.variant d.block gaps = .next (.returned (r, u) left) ∧
        (reply, d') = Device.takeResult r { d with block := u } := by
  obtain ⟨⟨r, u⟩, left, hread, htake⟩ := Call.andThen_eq_returned.mp h
  exact ⟨r, u, left, hread, (Progress.returned.inj (Host.Outcome.next.inj htake)).1.symm⟩

/-- Settles O59: by the protocol (O57) and what the Device makes of each of its two outcomes. -/
theorem measurementsIsOneFullRead : Obligations.MeasurementsIsOneFullRead := by
  intro d d' gaps rest reply hinv h
  obtain ⟨r, u, left, hread, htake⟩ := Device.measurements_returned h
  obtain ⟨-, hidle, hvar, hresult, hwrites, -⟩ := readProtocolReturnsTheResult _ _ _ _ _ r hinv hread
  cases r with
  | bytes b =>
    obtain ⟨hok, rfl⟩ := State.res_ok_of_bytes hidle hresult
    cases htake
    exact ⟨rfl, hidle, hvar, hwrites, .inl ⟨hok, rfl, rfl⟩⟩
  | error k =>
    cases htake
    exact ⟨rfl, hidle, hvar, hwrites, .inr ⟨k, hresult, rfl, rfl⟩⟩

/-- `ReadMeasurements()` calls `Device.Measurements()`, updates the cache by its answer, and drops the value
(R160, R161). -/
theorem ManagedDevice.readMeasurements_returned {m m' : ManagedDevice} {now : Nat} {reply : Reply Unit}
    (h : m.readMeasurements now gaps = .next (.returned (reply, m') rest)) :
    ∃ (answer : Reply Measurement) (d : Device) (left : List Nat),
      m.device.measurements gaps = .next (.returned (answer, d) left) ∧
        reply = answer.discard ∧ m' = (m.takeReply now answer d).2 := by
  obtain ⟨⟨answer', m''⟩, _, hphysical, hdiscard⟩ := Call.andThen_eq_returned.mp h
  obtain ⟨⟨answer, d⟩, left, hmeasure, htake⟩ := Call.andThen_eq_returned.mp hphysical
  refine ⟨answer, d, left, hmeasure, ?_⟩
  cases answer <;> cases htake <;> cases hdiscard <;> exact ⟨rfl, rfl⟩

/-- Settles O60: by the Device's read (O59), whose value or error decides what becomes of cache and timestamp. -/
theorem readMeasurementsForcesARead : Obligations.ReadMeasurementsForcesARead := by
  intro m m' now gaps rest reply hinv h
  obtain ⟨answer, d, left, hmeasure, rfl, rfl⟩ := ManagedDevice.readMeasurements_returned h
  obtain ⟨hvariant, hidle, hvar, hwrites, hanswer⟩ := measurementsIsOneFullRead _ _ _ _ _ hinv hmeasure
  obtain ⟨hok, rfl, hlast⟩ | ⟨k, hresult, rfl, hlast⟩ := hanswer
  · exact ⟨rfl, hvariant, hidle, hvar, hwrites, .inl ⟨hok, rfl, rfl, hlast⟩⟩
  · exact ⟨rfl, hvariant, hidle, hvar, hwrites, .inr ⟨k, hresult, rfl, rfl, hlast⟩⟩

end Sys2Proof.Machine
end

section
/-! SUPPORT. What the surrounding software of 46_surrounding_software.md makes of a read: the two variants' decoding
(O52, O53), the Device's memory of its last success (O54) and the Managed Device's cache (O55). -/

namespace Sys2Proof.Machine

variable {gaps rest : List Nat}

/-! The Variant Decoder. -/

theorem extractData_zero (b : Vector Byte 5) : extractData 0#1 b = extractInteger b := rfl

theorem extractData_one (b : Vector Byte 5) : extractData 1#1 b = extractFixed b := rfl

/-- Settles O52: VAR = 0 selects the integer variant, whose two fields are the products. -/
theorem integerVariantDecodes : Obligations.IntegerVariantDecodes := by
  intro b
  rw [extractData_zero]
  exact ⟨rfl, rfl⟩

/-- Two bytes side by side are a number of base 256. -/
theorem toNat_append_bytes (hi lo : Byte) : (hi ++ lo).toNat = hi.toNat * 256 + lo.toNat := by
  rw [BitVec.toNat_append, ← Nat.shiftLeft_add_eq_or_of_lt lo.isLt, Nat.shiftLeft_eq]

/-- The sign of a 16-bit word is the top bit of its high byte. -/
theorem getLsbD_append_bytes_fifteen (hi lo : Byte) : (hi ++ lo).getLsbD 15 = hi.getLsbD 7 :=
  BitVec.getLsbD_append

/-- The magnitude of a 16-bit word is the low seven bits of its high byte before its low byte. -/
theorem toNat_low_fifteen_append_bytes (hi lo : Byte) :
    ((hi ++ lo).extractLsb' 0 15).toNat = hi.toNat % 128 * 256 + lo.toNat := by
  rw [BitVec.extractLsb'_toNat, Nat.shiftRight_zero, toNat_append_bytes]
  omega

/-- Settles O53: humidity is the word of the first two bytes; the sign and the magnitude of the temperature are those
of the word of the next two. -/
theorem fixedPointVariantDecodes : Obligations.FixedPointVariantDecodes := by
  intro b
  rw [extractData_one, toNat_append_bytes, getLsbD_append_bytes_fifteen, toNat_low_fifteen_append_bytes]
  rw [ite_mul, neg_one_mul, one_mul]
  exact ⟨rfl, rfl⟩

/-! The Device. -/

theorem Device.access_of_none {α : Type} (f : Measurement → α) {d : Device} (h : d.last = none) :
    d.access f = .error .uninitialized := by
  rw [Device.access, h]

theorem Device.access_of_some {α : Type} (f : Measurement → α) {d : Device} {x : Measurement}
    (h : d.last = some x) : d.access f = .value (f x) := by
  rw [Device.access, h]

/-- Settles O54: a new Device stores no measurement, and a result stores one exactly when it is bytes. -/
theorem deviceKeepsTheLastSuccess : Obligations.DeviceKeepsTheLastSuccess :=
  ⟨fun _ _ => ⟨rfl, Device.access_of_none _ rfl, Device.access_of_none _ rfl⟩,
    fun _ _ => ⟨Device.access_of_some _ rfl, Device.access_of_some _ rfl⟩,
    fun _ _ => rfl⟩

/-- A call of the Device that returns a value has stored it (R155). -/
theorem Device.measurements_returned_value {d d' : Device} {x : Measurement}
    (h : d.measurements gaps = .next (.returned (.value x, d') rest)) : d'.last = some x := by
  obtain ⟨r, u, -, -, htake⟩ := Device.measurements_returned h
  cases r <;> cases htake
  rfl

/-- A call of the Device that returns an error has stored nothing (R155). -/
theorem Device.measurements_returned_error {d d' : Device} {e : CallError}
    (h : d.measurements gaps = .next (.returned (.error e, d') rest)) : d'.last = d.last := by
  obtain ⟨r, u, -, -, htake⟩ := Device.measurements_returned h
  cases r <;> cases htake
  rfl

/-! The Managed Device. -/

/-- Where a read is due, `ManagedDevice.Measurements()` calls the Device, returns its reply and updates the cache by
it (R160). -/
theorem ManagedDevice.measurements_returned_of_mustRead {m m' : ManagedDevice} {now : Nat}
    {reply : Reply Measurement} (hdue : m.mustRead now = true)
    (h : m.measurements now gaps = .next (.returned (reply, m') rest)) :
    ∃ (d : Device) (left : List Nat), m.device.measurements gaps = .next (.returned (reply, d) left) ∧
      m' = (m.takeReply now reply d).2 := by
  rw [ManagedDevice.measurements, if_pos hdue] at h
  obtain ⟨⟨answer, d⟩, left, hmeasure, htake⟩ := Call.andThen_eq_returned.mp h
  refine ⟨d, left, ?_⟩
  cases answer <;> cases htake <;> exact ⟨hmeasure, rfl⟩

/-- Where none is due, it is an access to the cache and nothing else. -/
theorem ManagedDevice.measurements_of_not_mustRead {m : ManagedDevice} {now : Nat} (h : m.mustRead now = false) :
    m.measurements now gaps = .next (.returned (m.device.access id, m) gaps) :=
  if_neg (Bool.eq_false_iff.mp h)

/-- A read is ever due only if the policy updates automatically. -/
theorem ManagedDevice.updateAutomatically_of_mustRead {m : ManagedDevice} {now : Nat} (h : m.mustRead now = true) :
    m.policy.updateAutomatically = true :=
  (Bool.and_eq_true_iff.mp h).1

/-- After a success at time `t`, whether a read is due is, under automatic updates, whether the interval is over. -/
theorem ManagedDevice.mustRead_of_lastSuccess {m : ManagedDevice} {t later : Nat}
    (hauto : m.policy.updateAutomatically = true) (hlast : m.lastSuccess = some t) :
    m.mustRead later = decide (m.policy.interval ≤ later - t) := by
  rw [ManagedDevice.mustRead, hauto, hlast, Bool.true_and]

/-- Settles O55: a read that succeeded leaves its value as the cache and its time as the timestamp, on which the next
call's decision rests; a read that failed leaves both; and a call that is not due to read is an access. -/
theorem managedDeviceCachesWithinTheInterval : Obligations.ManagedDeviceCachesWithinTheInterval := by
  refine ⟨fun m m' now later gaps rest x hdue h => ?_, fun m m' now gaps rest e hdue h => ?_,
    fun m now gaps hdue => ManagedDevice.measurements_of_not_mustRead hdue⟩
  · obtain ⟨d, left, hmeasure, rfl⟩ := ManagedDevice.measurements_returned_of_mustRead hdue h
    have hauto : m.policy.updateAutomatically = true := ManagedDevice.updateAutomatically_of_mustRead hdue
    have hcached : (m.takeReply now (.value x) d).2.device.access id = .value x :=
      Device.access_of_some id (Device.measurements_returned_value hmeasure)
    have hnext : (m.takeReply now (.value x) d).2.mustRead later = decide (m.policy.interval ≤ later - now) :=
      ManagedDevice.mustRead_of_lastSuccess hauto rfl
    refine ⟨fun hwithin gaps' => ?_, fun hover => hnext.trans (decide_eq_true hover)⟩
    have hdone : (m.takeReply now (.value x) d).2.mustRead later = false :=
      hnext.trans (decide_eq_false (Nat.not_le.mpr hwithin))
    rw [ManagedDevice.measurements_of_not_mustRead hdone, hcached]
  · obtain ⟨d, left, hmeasure, rfl⟩ := ManagedDevice.measurements_returned_of_mustRead hdue h
    exact ⟨Device.measurements_returned_error hmeasure, rfl, rfl⟩

end Sys2Proof.Machine
end

section
/-! SUPPORT. The errors of 60_exceptions.md: what the failing micro-operation writes (O36), and that with the invariant
nothing is stuck, by an error or otherwise (O43). -/

namespace Sys2Proof.Machine

variable {s t : State} {i : Instr} {c : PhaseCode}

/-! A micro-operation that has gone to RESTORE has taken its error (R173). -/

theorem State.finishAck_failed {r : Nat} (hc : c ≠ Phase.restore) (ht : (s.finishAck c r).ph = Phase.restore) :
    s.finishAck c r = s.fail .noSignal := by
  obtain ⟨-, hend⟩ | ⟨-, hend⟩ := State.finishAck_cases c r s
  · exact hend
  · exact absurd ((congrArg State.ph hend).symm.trans ht) hc

/-- A tick that has moved PH to RESTORE has ended its wait: CNT is 0 and the pin read is recorded. -/
theorem State.tick_finishAck_failed {level : Level} (hc : c ≠ Phase.restore) (hs : s.ph ≠ Phase.restore)
    (ht : (s.tick level (State.finishAck c)).ph = Phase.restore) :
    s.tick level (State.finishAck c) = (s.afterPinGet.setCnt 0).fail .noSignal := by
  obtain ⟨-, htick⟩ | ⟨-, -, htick⟩ | ⟨-, -, htick⟩ := State.tick_cases level (State.finishAck c) s
  all_goals rw [htick] at ht ⊢
  · exact State.finishAck_failed hc ht
  · exact State.finishAck_failed hc ht
  · exact absurd ht hs

theorem exec_ack_failed (hi : i ∈ [Instr.ack1, .ack2, .ack3]) (h : exec i s = .next t) (hs : s.ph ≠ Phase.restore)
    (ht : t.ph = Phase.restore) : t = (s.afterPinGet.setCnt 0).fail .noSignal := by
  simp only [List.mem_cons, List.not_mem_nil, or_false] at hi
  obtain rfl | rfl | rfl := hi <;> cases h <;> exact State.tick_finishAck_failed (by decide) hs ht

theorem exec_slice_failed (h : exec .slice s = .next t) (ht : t.ph = Phase.restore) : t = s.fail .noData := by
  obtain hfail | rfl := exec_slice_cases h
  · exact hfail
  · exact absurd ht (by simp)

theorem exec_check_failed (h : exec .check s = .next t) (ht : t.ph = Phase.restore) : t = s.fail .checksum := by
  obtain rfl | hfail := exec_check_cases h
  · exact absurd ht (by simp)
  · exact hfail

/-- Settles O36: the next state is `fail` of the error, for a wait after the end of its tick. -/
theorem failIsPrecise : Obligations.FailIsPrecise := by
  intro i s t _ h hs ht
  refine ⟨fun hi => exec_ack_failed hi h hs ht, ?slice, ?check⟩
  case slice => rintro rfl; exact exec_slice_failed h ht
  case check => rintro rfl; exact exec_check_failed h ht

/-! Every turn is taken, but for a reset while BUSY = 1. -/

theorem step_of_reset (hturn : s.nextTurn = .reset) : step s = s.popTurn.takeReset := by
  simp [step, hturn]

theorem State.takeReset_of_idle (hs : s.ph = Phase.idle) : ∃ t, s.takeReset = .next t :=
  ⟨_, if_pos hs⟩

/-- R192, log 7. -/
theorem State.takeReset_of_busy (hs : s.ph ≠ Phase.idle) : s.takeReset = .refused .resetWhileBusy :=
  if_neg hs

/-- With the invariant every turn but a refused reset answers a next state: PH decodes, every instruction goes on, and
a host access that is no instruction is only recorded. -/
theorem State.Inv.step_next (h : s.Inv) (hreset : s.nextTurn ≠ .reset ∨ s.ph = Phase.idle) :
    ∃ t, step s = .next t := by
  have hpop : s.popTurn.Inv := h.schedule _
  cases hturn : s.nextTurn with
  | sequencer =>
    obtain ⟨i, hi⟩ := decodePhase_legal h.ph_legal
    rw [step_of_sequencer hturn hi]
    exact hpop.exec_next i
  | regRead n => exact ⟨s.popTurn.hostRead n, by simp [step, hturn]⟩
  | regWrite n v =>
    cases hw : hostWriteInstr n v with
    | some i =>
      rw [step_of_regWrite hturn hw]
      exact (hpop.logHost _).exec_next i
    | none => exact ⟨s.popTurn.logHost (.wrote n v), by simp [step, hturn, hw]⟩
  | reset =>
    rw [step_of_reset hturn]
    exact State.takeReset_of_idle (s := s.popTurn) (hreset.resolve_left (not_not.mpr hturn))

/-- Settles O43: by the kinds of turn. -/
theorem nothingIsStuckUnderTheInvariant : Obligations.NothingIsStuckUnderTheInvariant :=
  fun _ h => ⟨h.step_next,
    fun hturn hbusy => (step_of_reset hturn).trans (State.takeReset_of_busy (by exact hbusy))⟩

end Sys2Proof.Machine
end

section
/-! SUPPORT. 70_reset_and_hazards.md: a reset turn (O51), and the end of every read within the steps and the pin reads
of R195 (O47). The steps are bounded by `State.stepsLeft`; here the pin reads are, by a measure of their own. -/

namespace Sys2Proof.Machine

variable {s t : State} {i : Instr} {c : PhaseCode}

/-! Reset. -/

/-- Settles O51: the turn is the reset input's, taken in IDLE and refused elsewhere. -/
theorem resetTurn : Obligations.ResetTurn :=
  fun _ hturn =>
    ⟨fun hs => ⟨_, (step_of_reset hturn).trans (if_pos hs), rfl, rfl, rfl, rfl, rfl, rfl, rfl, rfl, rfl, rfl⟩,
      fun hbusy => (step_of_reset hturn).trans (State.takeReset_of_busy (by exact hbusy))⟩

/-! The pin reads left. -/

/-- A bound on the pin reads from the beginning of the phase on until IDLE: GUARD_GET's one, and TIMEOUT for each wait
still to make (R63). -/
def State.readBudget (s : State) : Nat :=
  (if s.ph = Phase.guardGet then 1 else 0) + s.params.timeout * waitsLeft s.ph s.idx

/-- A bound on the pin reads until IDLE: CNT of them are made (R195). -/
def State.readsLeft (s : State) : Nat := s.readBudget - s.cnt

theorem State.readBudget_guardGet (hp : s.ph = Phase.guardGet) : s.readBudget = 1 + 83 * s.params.timeout := by
  rw [State.readBudget, hp, Nat.mul_comm]
  rfl

/-- A wait less to make is TIMEOUT pin reads less. -/
theorem readBudget_of_waitsLeft_lt (hparams : t.params = s.params) (hp : t.ph ≠ Phase.guardGet)
    (hwaits : waitsLeft t.ph t.idx < waitsLeft s.ph s.idx) : t.readBudget + s.params.timeout ≤ s.readBudget := by
  have hmul : s.params.timeout * (waitsLeft t.ph t.idx + 1) ≤ s.params.timeout * waitsLeft s.ph s.idx :=
    Nat.mul_le_mul_left _ hwaits
  rw [Nat.mul_succ] at hmul
  rw [State.readBudget, State.readBudget, hparams, if_neg hp]
  omega

/-- The end of an acknowledgement wait takes the wait out of the budget: NoSignal leaves none, the next phase one
less. -/
theorem State.finishAck_readBudget (r : Nat) (hc : c ≠ Phase.guardGet)
    (hwait : waitsLeft c s.idx < waitsLeft s.ph s.idx) :
    (s.finishAck c r).readBudget + s.params.timeout ≤ s.readBudget := by
  obtain ⟨-, ht⟩ | ⟨-, ht⟩ := State.finishAck_cases c r s <;> rw [ht]
  · exact readBudget_of_waitsLeft_lt rfl (by simp) (Nat.zero_lt_of_lt hwait)
  · exact readBudget_of_waitsLeft_lt rfl hc hwait

/-- In reception the waits left are those of the slots from IDX on. -/
theorem waitsLeft_reception (hc : c ∈ [Phase.rxLow, Phase.rxHigh]) (k : BitVec 7) :
    waitsLeft c k = 80 - k.toNat := by
  simp only [List.mem_cons, List.not_mem_nil, or_false] at hc
  obtain rfl | rfl := hc <;> rfl

/-- The end of a reception wait before the last takes the wait out of the budget. -/
theorem State.nextSlot_readBudget (r : Nat) (hp : s.ph ∈ [Phase.rxLow, Phase.rxHigh])
    (hc : c ∈ [Phase.rxLow, Phase.rxHigh]) (hidx : s.idx.toNat < 79) :
    (((s.setSlot r).setIdx (s.idx + 1)).setPh c).readBudget + s.params.timeout ≤ s.readBudget := by
  have hguard : c ≠ Phase.guardGet := by rintro rfl; exact absurd hc (by decide)
  refine readBudget_of_waitsLeft_lt rfl hguard ?_
  show waitsLeft c (s.idx + 1) < waitsLeft s.ph s.idx
  rw [waitsLeft_reception hc, waitsLeft_reception hp, idx_succ_toNat hidx]
  omega

/-- So does the end of the last one, which leaves reception (R112). -/
theorem State.finishHigh_readBudget (r : Nat) (hp : s.ph = Phase.rxHigh) (hidx : s.idx.toNat < 80) :
    (s.finishHigh r).readBudget + s.params.timeout ≤ s.readBudget := by
  have hmem : s.ph ∈ [Phase.rxLow, Phase.rxHigh] := by simp [hp]
  by_cases hlast : s.idx.toNat = 79
  · rw [State.finishHigh_of_last hlast]
    refine readBudget_of_waitsLeft_lt rfl (by simp) ?_
    rw [waitsLeft_reception hmem, hlast]
    exact Nat.zero_lt_one
  · rw [State.finishHigh_of_ne_last hlast]
    exact State.nextSlot_readBudget r hmem (by decide) (by omega)

/-- A tick takes its one pin read from those left: it counts, or it ends the wait, if that takes the TIMEOUT pin reads
of the wait out of the budget. -/
theorem State.tick_draws_add_readsLeft {level : Level} {finish : Nat → State → State}
    (hcnt : s.cnt < s.params.timeout) (hdraws : ∀ r u, (finish r u).draws = u.draws)
    (hend : ∀ r, (finish r (s.afterPinGet.setCnt 0)).readBudget + s.params.timeout ≤ s.readBudget) :
    (s.tick level finish).draws + (s.tick level finish).readsLeft ≤ s.draws + s.readsLeft := by
  have ends : ∀ r, (finish r (s.afterPinGet.setCnt 0)).draws + (finish r (s.afterPinGet.setCnt 0)).readsLeft ≤
      s.draws + s.readsLeft := fun r => by
    have := hend r
    rw [hdraws]
    show s.draws + 1 + _ ≤ _
    unfold State.readsLeft
    omega
  obtain ⟨-, ht⟩ | ⟨-, -, ht⟩ | ⟨-, -, ht⟩ := State.tick_cases level finish s <;> rw [ht]
  · exact ends _
  · exact ends _
  · have hroom := hend 0
    show s.draws + 1 + (s.readBudget - (s.cnt + 1)) ≤ s.draws + (s.readBudget - s.cnt)
    omega

@[simp] theorem State.finishAck_draws (c : PhaseCode) (r : Nat) (s : State) : (s.finishAck c r).draws = s.draws := by
  obtain ⟨-, h⟩ | ⟨-, h⟩ := State.finishAck_cases c r s <;> simp [h]

@[simp] theorem State.finishHigh_draws (r : Nat) (s : State) : (s.finishHigh r).draws = s.draws := by
  obtain ⟨-, h⟩ | ⟨-, h⟩ := State.finishHigh_cases r s <;> simp [h]

/-- Away from a wait, what adds to the pin reads made must come out of the budget. -/
theorem draws_add_readsLeft_le (hcnt : s.cnt = 0) (h : t.draws + t.readBudget ≤ s.draws + s.readBudget) :
    t.draws + t.readsLeft ≤ s.draws + s.readsLeft := by
  unfold State.readsLeft
  omega

/-- R63, R195: a micro-operation in its own phase adds nothing to the pin reads made and left. -/
theorem exec_draws_add_readsLeft (h : s.Inv) (hi : decodePhase s.ph = .ok i) (he : exec i s = .next t) :
    t.draws + t.readsLeft ≤ s.draws + s.readsLeft := by
  have hph : encode i = .phase s.ph := decodePhase_ok hi
  have hidx := h.idx_le
  cases i <;> simp only [encode, CodeWord.phase.injEq, reduceCtorEq] at hph
  case idle => cases he; exact le_rfl
  case ack1 | ack2 | ack3 =>
    cases he
    refine State.tick_draws_add_readsLeft h.cnt_lt (State.finishAck_draws _) fun r =>
      State.finishAck_readBudget (s := s.afterPinGet.setCnt 0) r (by decide) ?_
    simp [waitsLeft, ← hph]
  case rxLow =>
    obtain ⟨-, rfl⟩ := State.receptionTick_next he
    have heven := h.idx_even hph.symm
    exact State.tick_draws_add_readsLeft h.cnt_lt (fun _ _ => rfl) fun r =>
      State.nextSlot_readBudget (s := s.afterPinGet.setCnt 0) r (by simp [← hph]) (by decide)
        (show s.idx.toNat < 79 by omega)
  case rxHigh =>
    obtain ⟨-, rfl⟩ := State.receptionTick_next he
    exact State.tick_draws_add_readsLeft h.cnt_lt State.finishHigh_draws fun r =>
      State.finishHigh_readBudget (s := s.afterPinGet.setCnt 0) r hph.symm (Nat.lt_succ_of_le hidx)
  case guardGet =>
    cases he
    refine draws_add_readsLeft_le (h.cnt_eq_zero (by simp [← hph])) ?_
    by_cases hhigh : s.pinAnswer = Level.high <;> simp [State.readBudget, waitsLeft, ← hph, hhigh] <;> omega
  case slice =>
    refine draws_add_readsLeft_le (h.cnt_eq_zero (by simp [← hph])) ?_
    obtain rfl | rfl := exec_slice_cases he <;> simp [State.readBudget, waitsLeft, ← hph]
  case check =>
    refine draws_add_readsLeft_le (h.cnt_eq_zero (by simp [← hph])) ?_
    obtain rfl | rfl := exec_check_cases he <;> simp [State.readBudget, waitsLeft, ← hph]
  all_goals
    cases he
    refine draws_add_readsLeft_le (h.cnt_eq_zero (by simp [← hph])) ?_
    simp [State.readBudget, waitsLeft, ← hph]

/-- `u` has the invariant, and the pin reads made and left in it are no more than in `s`. -/
def State.StaysWithinReads (s u : State) : Prop :=
  u.Inv ∧ u.draws + u.readsLeft ≤ s.draws + s.readsLeft

/-- However many steps the sequencer makes, it has made no more pin reads than were left. -/
theorem sequencerSteps_draws_le {k : Nat} (h : s.Inv) (hrun : sequencerSteps k s = .next t) :
    t.draws ≤ s.draws + s.readsLeft := by
  have hend : s.StaysWithinReads t := by
    refine sequencerSteps_induction (fun u v hu hstep => ?_) hrun ⟨h, le_rfl⟩
    obtain ⟨hinv, hreads⟩ := hu
    obtain ⟨i, hi, he⟩ := State.stepBy_sequencer_next hstep
    exact ⟨exec_keeps_inv hinv hi he, (exec_draws_add_readsLeft hinv hi he).trans hreads⟩
  exact (Nat.le_add_right _ _).trans hend.2

/-- Where nothing is scheduled the machine's steps are the sequencer's. -/
theorem runSteps_of_sequencerSteps {k : Nat} (hs : s.HostQuiet) (h : sequencerSteps k s = .next t) :
    runSteps k s = .next t := by
  induction k generalizing s with
  | zero => exact h
  | succ k ih =>
    unfold sequencerSteps at h
    split at h
    case h_1 u hu =>
      obtain ⟨i, -, he⟩ := State.stepBy_sequencer_next hu
      rw [runSteps_succ_next ((State.stepBy_sequencer_of_quiet hs).symm.trans hu)]
      exact ih ((exec_keeps_schedule he).trans hs) h
    all_goals cases h

/-- Settles O47: all the steps R195 allows are made, IDLE doing nothing where the read has ended before. -/
theorem everyReadEnds : Obligations.EveryReadEnds := by
  intro s h hs hp
  obtain ⟨t, hrun, ht, -, hres⟩ := sequencerSteps_end_read h hp le_rfl
  have hbound : s.readsLeft ≤ 1 + 83 * s.params.timeout := (Nat.sub_le _ _).trans (State.readBudget_guardGet hp).le
  exact ⟨_, t, le_rfl, runSteps_of_sequencerSteps hs hrun, ht, hres,
    (sequencerSteps_draws_le h hrun).trans (Nat.add_le_add_left hbound _)⟩

end Sys2Proof.Machine
end
